-- ==== Sys2Proof/Word.lean ====
section
/-! DEFINITION. The machine's words (10_state.md R20; 00_scope.md R6, R7) and the slot, the 64-bit unit of the program. -/

namespace Sys2Proof

/-- One byte of data memory (10_state.md R31) or of a program slot (30_encoding.md R61, R62). -/
abbrev Byte := BitVec 8

/-- The content of a general register and the type of a data address: 64 bits (10_state.md R20, R31). -/
abbrev Word := BitVec 64

/-- One slot of the program: eight bytes, `b0` at the lowest address (30_encoding.md R61, R62). -/
structure Slot where
  b0 : Byte
  b1 : Byte
  b2 : Byte
  b3 : Byte
  b4 : Byte
  b5 : Byte
  b6 : Byte
  b7 : Byte
deriving DecidableEq, Repr

end Sys2Proof
end

