-- ==== Sys2Proof/Config.lean ====
section
/-! DEFINITION. What the platform fixes (the parameters of 00_scope.md R5, as plain data) and the free values: the
values the spec leaves open, as constants without a body. -/

namespace Sys2Proof

/-- `ENDIAN`: which of the two variants the machine is. It is the byte order of instruction fields, of data memory and
of the host (00_scope.md R5; 20_memory.md R40, R41). -/
inductive Endian where
  | little
  | big
deriving DecidableEq, Repr

/-- What one register holds: a 64-bit value, or nothing yet. `unwritten` is the spec's own state of a register
(10_state.md, "u64 or unwritten", R23), not a missing reset value. -/
inductive RegCell where
  | unwritten
  | word (v : Word)
deriving DecidableEq, Repr

/-- Data memory: a partial map from addresses to bytes (10_state.md R31), as a list of (address, byte) pairs with
strictly rising addresses. An address that is not listed holds no value. -/
abbrev Memory := List Host.Cell

/-- The kind of a memory access the platform is asked about (20_memory.md R47). -/
inductive AccessKind where
  | read
  | write
  | atomic
deriving DecidableEq, Repr

/-- One region the platform admits accesses in, with the kinds of access it admits there (20_memory.md R47, R49).
Every access that lies inside it, of whatever width, is admitted for these kinds. -/
structure Region where
  base : Nat
  size : Nat
  read : Bool
  write : Bool
  atomic : Bool
deriving DecidableEq, Repr

/-- One access the platform admits by itself: exactly this address, this width and this kind (00_scope.md R5,
`MemAdmit(addr, n, kind)`), so that a platform may admit 4 bytes at an address and refuse a byte there. -/
structure AdmittedAccess where
  addr : Word
  n : Nat
  kind : AccessKind
deriving DecidableEq, Repr

/-- The two readings 10_state.md R23 admits of a read of an unwritten register: an arbitrary value chosen afresh at
each read (`draw`), or the fault `UnwrittenRegister` (`fault`). -/
inductive UnwrittenRead where
  | draw
  | fault
deriving DecidableEq, Repr

/-- The launch parameters of 00_scope.md R5 other than the program, as plain data. No instruction changes them.
A partial map is a list of its entries, the first entry for a key counting; a platform that lacks a feature has the
empty list. -/
structure Platform where
  /-- `ENDIAN`. -/
  endian : Endian
  /-- `CTX`: R1 at entry. -/
  ctx : Word
  /-- `FP0`: R10 at entry. -/
  fp0 : Word
  /-- Further entry values, for R2, R3, R4, R5 in this order (10_state.md R36, last paragraph). -/
  entryArgs : List Word
  /-- `STACK_SIZE`: bytes of stack below each frame's R10. -/
  stackSize : Nat
  /-- `MAX_CALL_DEPTH`: the greatest number of frames on the call stack. -/
  maxCallDepth : Nat
  /-- `FrameTop(k)` for k = 1, 2, ... where the platform gives one; see `frameTop`. -/
  frameTops : List Word
  /-- `STRICT_ALIGN`. -/
  strictAlign : Bool
  /-- Whether the stack bytes admit atomic accesses; loads and stores they admit always (`92_eei_decisions.md` D33).
  The spec leaves it open (notes/assumptions/24.md). -/
  stackAtomic : Bool
  /-- The regions of `MemAdmit` beyond the stack; see `memAdmit`. -/
  regions : List Region
  /-- The single accesses of `MemAdmit` beyond the stack and the regions; see `memAdmit`. -/
  accesses : List AdmittedAccess
  /-- The identifiers `HelperByAddr` is defined on. -/
  helpersByAddr : List (BitVec 32)
  /-- The BTF IDs `HelperByBtf` is defined on. -/
  helpersByBtf : List (BitVec 32)
  /-- `MapByFd`. -/
  mapByFd : List (BitVec 32 × Word)
  /-- `MapByIdx`. -/
  mapByIdx : List (BitVec 32 × Word)
  /-- `MapVal`. -/
  mapVal : List (Word × Word)
  /-- `VarAddr`. -/
  varAddr : List (BitVec 32 × Word)
  /-- `CodeAddr(pc, imm)`. -/
  codeAddr : List ((Int × Int) × Word)
  /-- Which of the two readings of R23 holds. -/
  unwrittenRead : UnwrittenRead
deriving DecidableEq, Repr

/-- The platform of `State.reset`: R5's defaults where it has them (`ENDIAN`, `STACK_SIZE`, `MAX_CALL_DEPTH`,
`FrameTop`, `STRICT_ALIGN`), the values of the spec's programs for `CTX` and `FP0` (95_test_vectors.md section 3), and
no helper, map, variable, region or single access beyond the stack. DESIGN CHOICE: notes/assumptions 1, 3, 4, 6, 7, 8,
10, 19, 24. -/
def Config.defaultPlatform : Platform where
  endian := .little
  ctx := 0x8000#64
  fp0 := 0x20000#64
  entryArgs := []
  stackSize := 512
  maxCallDepth := 7
  frameTops := []
  strictAlign := true
  stackAtomic := true
  regions := []
  accesses := []
  helpersByAddr := []
  helpersByBtf := []
  mapByFd := []
  mapByIdx := []
  mapVal := []
  varAddr := []
  codeAddr := []
  unwrittenRead := .draw

/-- Which helper a call names: by the number in `imm` or by a BTF ID (42_jump.md R171, R173). -/
inductive HelperKey where
  | byAddr (id : BitVec 32)
  | byBtf (id : BitVec 32)
deriving DecidableEq, Repr

/-- What a helper is handed: R1 to R5 "as they are", and memory (42_jump.md R171). -/
structure HelperCall where
  key : HelperKey
  a1 : RegCell
  a2 : RegCell
  a3 : RegCell
  a4 : RegCell
  a5 : RegCell
  mem : Memory
deriving DecidableEq, Repr

/-- What a helper answers: the new R0 and the bytes of memory it writes, in order (42_jump.md R171). -/
structure HelperAnswer where
  r0 : Word
  writes : List (Word × Byte)
deriving DecidableEq, Repr, Inhabited

/-- FREE VALUE: what the n-th read of an unwritten register gives (10_state.md R23, "an arbitrary 64-bit value chosen
afresh at each read"; notes/assumptions/3.md). -/
opaque Config.freeReg : Nat → Word

/-- FREE VALUE: the byte an address holds that nothing has written (20_memory.md R48, "an unconstrained input, fixed
once read"; notes/assumptions/5.md). -/
opaque Config.freeByte : Nat → Byte

/-- FREE VALUE: the n-th answer of the platform's helpers (42_jump.md R171, "a relation: the platform may answer any
pair it allows"; notes/assumptions/9.md). -/
opaque Config.helperAnswer : HelperCall → Nat → HelperAnswer

end Sys2Proof
end

