-- ==== Sys2Proof/Syntax.lean ====
section
/-! DEFINITION. The instructions: one constructor for each row of spec/opcode_table.json, in the table's order. -/

namespace Sys2Proof

/-- A general register, R0 to R10 (10_state.md R20). -/
inductive Reg where
  | r0 | r1 | r2 | r3 | r4 | r5 | r6 | r7 | r8 | r9 | r10
deriving DecidableEq, Repr

/-- An instruction. `dst`, `src`, `off`, `imm` are the fields of 30_encoding.md R60, `next` is the `imm` of the second
slot of a wide instruction (R66). `K` and `X` are the source bit (R64); 64 and 32 the width of the class. Selector
fields are folded into the constructor. The legacy packet instructions keep their fields as bits, since the spec gives
them no operands (45_imm64_legacy.md R231). -/
inductive Instr where
  -- Class BPF_ALU64 (40_alu.md)
  | add64K (dst : Reg) (imm : BitVec 32) -- R104: dst += src
  | add64X (dst : Reg) (src : Reg) -- R104: dst += src
  | sub64K (dst : Reg) (imm : BitVec 32) -- R105: dst -= src
  | sub64X (dst : Reg) (src : Reg) -- R105: dst -= src
  | mul64K (dst : Reg) (imm : BitVec 32) -- R106: dst *= src
  | mul64X (dst : Reg) (src : Reg) -- R106: dst *= src
  | div64K (dst : Reg) (imm : BitVec 32) -- R107: dst = (src != 0) ? (dst / src) : 0, unsigned
  | div64X (dst : Reg) (src : Reg) -- R107: dst = (src != 0) ? (dst / src) : 0, unsigned
  | sdiv64K (dst : Reg) (imm : BitVec 32) -- R108: dst = (src != 0) ? (dst s/ src) : 0, signed
  | sdiv64X (dst : Reg) (src : Reg) -- R108: dst = (src != 0) ? (dst s/ src) : 0, signed
  | or64K (dst : Reg) (imm : BitVec 32) -- R109: dst |= src
  | or64X (dst : Reg) (src : Reg) -- R109: dst |= src
  | and64K (dst : Reg) (imm : BitVec 32) -- R110: dst &= src
  | and64X (dst : Reg) (src : Reg) -- R110: dst &= src
  | lsh64K (dst : Reg) (imm : BitVec 32) -- R111: dst <<= (src & mask)
  | lsh64X (dst : Reg) (src : Reg) -- R111: dst <<= (src & mask)
  | rsh64K (dst : Reg) (imm : BitVec 32) -- R112: dst >>= (src & mask)
  | rsh64X (dst : Reg) (src : Reg) -- R112: dst >>= (src & mask)
  | mod64K (dst : Reg) (imm : BitVec 32) -- R114: dst = (src != 0) ? (dst % src) : dst, unsigned
  | mod64X (dst : Reg) (src : Reg) -- R114: dst = (src != 0) ? (dst % src) : dst, unsigned
  | smod64K (dst : Reg) (imm : BitVec 32) -- R115: dst = (src != 0) ? (dst s% src) : dst, signed
  | smod64X (dst : Reg) (src : Reg) -- R115: dst = (src != 0) ? (dst s% src) : dst, signed
  | xor64K (dst : Reg) (imm : BitVec 32) -- R116: dst ^= src
  | xor64X (dst : Reg) (src : Reg) -- R116: dst ^= src
  | arsh64K (dst : Reg) (imm : BitVec 32) -- R119: sign extending dst >>= (src & mask)
  | arsh64X (dst : Reg) (src : Reg) -- R119: sign extending dst >>= (src & mask)
  | neg64 (dst : Reg) -- R113: dst = -dst
  | mov64K (dst : Reg) (imm : BitVec 32) -- R117: dst = src
  | mov64X (dst : Reg) (src : Reg) -- R117: dst = src
  | movsx8to64 (dst : Reg) (src : Reg) -- R118: dst = (s8)src
  | movsx16to64 (dst : Reg) (src : Reg) -- R118: dst = (s16)src
  | movsx32to64 (dst : Reg) (src : Reg) -- R118: dst = (s32)src
  -- Class BPF_ALU (40_alu.md)
  | add32K (dst : Reg) (imm : BitVec 32) -- R104: dst += src
  | add32X (dst : Reg) (src : Reg) -- R104: dst += src
  | sub32K (dst : Reg) (imm : BitVec 32) -- R105: dst -= src
  | sub32X (dst : Reg) (src : Reg) -- R105: dst -= src
  | mul32K (dst : Reg) (imm : BitVec 32) -- R106: dst *= src
  | mul32X (dst : Reg) (src : Reg) -- R106: dst *= src
  | div32K (dst : Reg) (imm : BitVec 32) -- R107: dst = (src != 0) ? (dst / src) : 0, unsigned
  | div32X (dst : Reg) (src : Reg) -- R107: dst = (src != 0) ? (dst / src) : 0, unsigned
  | sdiv32K (dst : Reg) (imm : BitVec 32) -- R108: dst = (src != 0) ? (dst s/ src) : 0, signed
  | sdiv32X (dst : Reg) (src : Reg) -- R108: dst = (src != 0) ? (dst s/ src) : 0, signed
  | or32K (dst : Reg) (imm : BitVec 32) -- R109: dst |= src
  | or32X (dst : Reg) (src : Reg) -- R109: dst |= src
  | and32K (dst : Reg) (imm : BitVec 32) -- R110: dst &= src
  | and32X (dst : Reg) (src : Reg) -- R110: dst &= src
  | lsh32K (dst : Reg) (imm : BitVec 32) -- R111: dst <<= (src & mask)
  | lsh32X (dst : Reg) (src : Reg) -- R111: dst <<= (src & mask)
  | rsh32K (dst : Reg) (imm : BitVec 32) -- R112: dst >>= (src & mask)
  | rsh32X (dst : Reg) (src : Reg) -- R112: dst >>= (src & mask)
  | mod32K (dst : Reg) (imm : BitVec 32) -- R114: dst = (src != 0) ? (dst % src) : dst, unsigned
  | mod32X (dst : Reg) (src : Reg) -- R114: dst = (src != 0) ? (dst % src) : dst, unsigned
  | smod32K (dst : Reg) (imm : BitVec 32) -- R115: dst = (src != 0) ? (dst s% src) : dst, signed
  | smod32X (dst : Reg) (src : Reg) -- R115: dst = (src != 0) ? (dst s% src) : dst, signed
  | xor32K (dst : Reg) (imm : BitVec 32) -- R116: dst ^= src
  | xor32X (dst : Reg) (src : Reg) -- R116: dst ^= src
  | arsh32K (dst : Reg) (imm : BitVec 32) -- R119: sign extending dst >>= (src & mask)
  | arsh32X (dst : Reg) (src : Reg) -- R119: sign extending dst >>= (src & mask)
  | neg32 (dst : Reg) -- R113: dst = -dst
  | mov32K (dst : Reg) (imm : BitVec 32) -- R117: dst = src
  | mov32X (dst : Reg) (src : Reg) -- R117: dst = src
  | movsx8to32 (dst : Reg) (src : Reg) -- R118: dst = (s8)src
  | movsx16to32 (dst : Reg) (src : Reg) -- R118: dst = (s16)src
  -- Byte swaps (41_byteswap.md)
  | toLe16 (dst : Reg) -- R141: dst = htole16(dst)
  | toLe32 (dst : Reg) -- R141: dst = htole32(dst)
  | toLe64 (dst : Reg) -- R141: dst = htole64(dst)
  | toBe16 (dst : Reg) -- R142: dst = htobe16(dst)
  | toBe32 (dst : Reg) -- R142: dst = htobe32(dst)
  | toBe64 (dst : Reg) -- R142: dst = htobe64(dst)
  | bswap16 (dst : Reg) -- R143: dst = bswap16(dst)
  | bswap32 (dst : Reg) -- R143: dst = bswap32(dst)
  | bswap64 (dst : Reg) -- R143: dst = bswap64(dst)
  -- Jumps (42_jump.md)
  | ja (off : BitVec 16) -- R152: PC += offset
  | ja32 (imm : BitVec 32) -- R153: PC += imm (gotol)
  | jeq64K (dst : Reg) (off : BitVec 16) (imm : BitVec 32) -- R154: PC += offset if dst == src
  | jeq64X (dst : Reg) (src : Reg) (off : BitVec 16) -- R154: PC += offset if dst == src
  | jgt64K (dst : Reg) (off : BitVec 16) (imm : BitVec 32) -- R155: PC += offset if dst > src, unsigned
  | jgt64X (dst : Reg) (src : Reg) (off : BitVec 16) -- R155: PC += offset if dst > src, unsigned
  | jge64K (dst : Reg) (off : BitVec 16) (imm : BitVec 32) -- R156: PC += offset if dst >= src, unsigned
  | jge64X (dst : Reg) (src : Reg) (off : BitVec 16) -- R156: PC += offset if dst >= src, unsigned
  | jset64K (dst : Reg) (off : BitVec 16) (imm : BitVec 32) -- R157: PC += offset if dst & src
  | jset64X (dst : Reg) (src : Reg) (off : BitVec 16) -- R157: PC += offset if dst & src
  | jne64K (dst : Reg) (off : BitVec 16) (imm : BitVec 32) -- R158: PC += offset if dst != src
  | jne64X (dst : Reg) (src : Reg) (off : BitVec 16) -- R158: PC += offset if dst != src
  | jsgt64K (dst : Reg) (off : BitVec 16) (imm : BitVec 32) -- R159: PC += offset if dst > src, signed
  | jsgt64X (dst : Reg) (src : Reg) (off : BitVec 16) -- R159: PC += offset if dst > src, signed
  | jsge64K (dst : Reg) (off : BitVec 16) (imm : BitVec 32) -- R160: PC += offset if dst >= src, signed
  | jsge64X (dst : Reg) (src : Reg) (off : BitVec 16) -- R160: PC += offset if dst >= src, signed
  | jlt64K (dst : Reg) (off : BitVec 16) (imm : BitVec 32) -- R161: PC += offset if dst < src, unsigned
  | jlt64X (dst : Reg) (src : Reg) (off : BitVec 16) -- R161: PC += offset if dst < src, unsigned
  | jle64K (dst : Reg) (off : BitVec 16) (imm : BitVec 32) -- R162: PC += offset if dst <= src, unsigned
  | jle64X (dst : Reg) (src : Reg) (off : BitVec 16) -- R162: PC += offset if dst <= src, unsigned
  | jslt64K (dst : Reg) (off : BitVec 16) (imm : BitVec 32) -- R163: PC += offset if dst < src, signed
  | jslt64X (dst : Reg) (src : Reg) (off : BitVec 16) -- R163: PC += offset if dst < src, signed
  | jsle64K (dst : Reg) (off : BitVec 16) (imm : BitVec 32) -- R164: PC += offset if dst <= src, signed
  | jsle64X (dst : Reg) (src : Reg) (off : BitVec 16) -- R164: PC += offset if dst <= src, signed
  | jeq32K (dst : Reg) (off : BitVec 16) (imm : BitVec 32) -- R154: PC += offset if dst == src
  | jeq32X (dst : Reg) (src : Reg) (off : BitVec 16) -- R154: PC += offset if dst == src
  | jgt32K (dst : Reg) (off : BitVec 16) (imm : BitVec 32) -- R155: PC += offset if dst > src, unsigned
  | jgt32X (dst : Reg) (src : Reg) (off : BitVec 16) -- R155: PC += offset if dst > src, unsigned
  | jge32K (dst : Reg) (off : BitVec 16) (imm : BitVec 32) -- R156: PC += offset if dst >= src, unsigned
  | jge32X (dst : Reg) (src : Reg) (off : BitVec 16) -- R156: PC += offset if dst >= src, unsigned
  | jset32K (dst : Reg) (off : BitVec 16) (imm : BitVec 32) -- R157: PC += offset if dst & src
  | jset32X (dst : Reg) (src : Reg) (off : BitVec 16) -- R157: PC += offset if dst & src
  | jne32K (dst : Reg) (off : BitVec 16) (imm : BitVec 32) -- R158: PC += offset if dst != src
  | jne32X (dst : Reg) (src : Reg) (off : BitVec 16) -- R158: PC += offset if dst != src
  | jsgt32K (dst : Reg) (off : BitVec 16) (imm : BitVec 32) -- R159: PC += offset if dst > src, signed
  | jsgt32X (dst : Reg) (src : Reg) (off : BitVec 16) -- R159: PC += offset if dst > src, signed
  | jsge32K (dst : Reg) (off : BitVec 16) (imm : BitVec 32) -- R160: PC += offset if dst >= src, signed
  | jsge32X (dst : Reg) (src : Reg) (off : BitVec 16) -- R160: PC += offset if dst >= src, signed
  | jlt32K (dst : Reg) (off : BitVec 16) (imm : BitVec 32) -- R161: PC += offset if dst < src, unsigned
  | jlt32X (dst : Reg) (src : Reg) (off : BitVec 16) -- R161: PC += offset if dst < src, unsigned
  | jle32K (dst : Reg) (off : BitVec 16) (imm : BitVec 32) -- R162: PC += offset if dst <= src, unsigned
  | jle32X (dst : Reg) (src : Reg) (off : BitVec 16) -- R162: PC += offset if dst <= src, unsigned
  | jslt32K (dst : Reg) (off : BitVec 16) (imm : BitVec 32) -- R163: PC += offset if dst < src, signed
  | jslt32X (dst : Reg) (src : Reg) (off : BitVec 16) -- R163: PC += offset if dst < src, signed
  | jsle32K (dst : Reg) (off : BitVec 16) (imm : BitVec 32) -- R164: PC += offset if dst <= src, signed
  | jsle32X (dst : Reg) (src : Reg) (off : BitVec 16) -- R164: PC += offset if dst <= src, signed
  -- Calls and exit (42_jump.md)
  | callHelper (imm : BitVec 32) -- R171: call helper function by address
  | callLocal (imm : BitVec 32) -- R172: call PC += imm
  | callBtf (imm : BitVec 32) -- R173: call helper function by BTF ID
  | exit -- R174: return
  -- Loads and stores (43_load_store.md)
  | ldxW (dst : Reg) (src : Reg) (off : BitVec 16) -- R181: dst = *(u32 *) (src + offset)
  | ldxH (dst : Reg) (src : Reg) (off : BitVec 16) -- R182: dst = *(u16 *) (src + offset)
  | ldxB (dst : Reg) (src : Reg) (off : BitVec 16) -- R183: dst = *(u8 *) (src + offset)
  | ldxDW (dst : Reg) (src : Reg) (off : BitVec 16) -- R184: dst = *(u64 *) (src + offset)
  | ldxsW (dst : Reg) (src : Reg) (off : BitVec 16) -- R192: dst = *(s32 *) (src + offset)
  | ldxsH (dst : Reg) (src : Reg) (off : BitVec 16) -- R193: dst = *(s16 *) (src + offset)
  | ldxsB (dst : Reg) (src : Reg) (off : BitVec 16) -- R194: dst = *(s8 *) (src + offset)
  | stW (dst : Reg) (off : BitVec 16) (imm : BitVec 32) -- R185: *(u32 *) (dst + offset) = imm32
  | stH (dst : Reg) (off : BitVec 16) (imm : BitVec 32) -- R186: *(u16 *) (dst + offset) = imm32
  | stB (dst : Reg) (off : BitVec 16) (imm : BitVec 32) -- R187: *(u8 *) (dst + offset) = imm32
  | stDW (dst : Reg) (off : BitVec 16) (imm : BitVec 32) -- R188: *(u64 *) (dst + offset) = imm32
  | stxW (dst : Reg) (src : Reg) (off : BitVec 16) -- R189: *(u32 *) (dst + offset) = src
  | stxH (dst : Reg) (src : Reg) (off : BitVec 16) -- R190: *(u16 *) (dst + offset) = src
  | stxB (dst : Reg) (src : Reg) (off : BitVec 16) -- R191: *(u8 *) (dst + offset) = src
  | stxDW (dst : Reg) (src : Reg) (off : BitVec 16) -- R195: *(u64 *) (dst + offset) = src
  -- Atomic operations (44_atomic.md)
  | atomicAdd32 (dst : Reg) (src : Reg) (off : BitVec 16) -- R204: *(u32 *)(dst + offset) += src
  | fetchAdd32 (dst : Reg) (src : Reg) (off : BitVec 16) -- R205: the same, and src takes the old value
  | atomicOr32 (dst : Reg) (src : Reg) (off : BitVec 16) -- R206: *(u32 *)(dst + offset) |= src
  | fetchOr32 (dst : Reg) (src : Reg) (off : BitVec 16) -- R207: the same, and src takes the old value
  | atomicAnd32 (dst : Reg) (src : Reg) (off : BitVec 16) -- R208: *(u32 *)(dst + offset) &= src
  | fetchAnd32 (dst : Reg) (src : Reg) (off : BitVec 16) -- R209: the same, and src takes the old value
  | atomicXor32 (dst : Reg) (src : Reg) (off : BitVec 16) -- R210: *(u32 *)(dst + offset) ^= src
  | fetchXor32 (dst : Reg) (src : Reg) (off : BitVec 16) -- R211: the same, and src takes the old value
  | xchg32 (dst : Reg) (src : Reg) (off : BitVec 16) -- R213: exchanges src with *(u32 *)(dst + offset)
  | cmpxchg32 (dst : Reg) (src : Reg) (off : BitVec 16) -- R212: compares *(u32 *)(dst + offset) with R0; if they match it becomes src; R0 takes the old value
  | atomicAdd64 (dst : Reg) (src : Reg) (off : BitVec 16) -- R204: *(u64 *)(dst + offset) += src
  | fetchAdd64 (dst : Reg) (src : Reg) (off : BitVec 16) -- R205: the same, and src takes the old value
  | atomicOr64 (dst : Reg) (src : Reg) (off : BitVec 16) -- R206: *(u64 *)(dst + offset) |= src
  | fetchOr64 (dst : Reg) (src : Reg) (off : BitVec 16) -- R207: the same, and src takes the old value
  | atomicAnd64 (dst : Reg) (src : Reg) (off : BitVec 16) -- R208: *(u64 *)(dst + offset) &= src
  | fetchAnd64 (dst : Reg) (src : Reg) (off : BitVec 16) -- R209: the same, and src takes the old value
  | atomicXor64 (dst : Reg) (src : Reg) (off : BitVec 16) -- R210: *(u64 *)(dst + offset) ^= src
  | fetchXor64 (dst : Reg) (src : Reg) (off : BitVec 16) -- R211: the same, and src takes the old value
  | xchg64 (dst : Reg) (src : Reg) (off : BitVec 16) -- R213: exchanges src with *(u64 *)(dst + offset)
  | cmpxchg64 (dst : Reg) (src : Reg) (off : BitVec 16) -- R212: compares *(u64 *)(dst + offset) with R0; if they match it becomes src; R0 takes the old value
  -- 64-bit immediates (45_imm64_legacy.md)
  | ldImm64 (dst : Reg) (imm : BitVec 32) (next : BitVec 32) -- R221: dst = imm64
  | ldMapFd (dst : Reg) (imm : BitVec 32) -- R222: dst = map_by_fd(imm)
  | ldMapFdVal (dst : Reg) (imm : BitVec 32) (next : BitVec 32) -- R223: dst = map_val(map_by_fd(imm)) + next_imm
  | ldVarAddr (dst : Reg) (imm : BitVec 32) -- R224: dst = var_addr(imm)
  | ldCodeAddr (dst : Reg) (imm : BitVec 32) -- R225: dst = code_addr(imm)
  | ldMapIdx (dst : Reg) (imm : BitVec 32) -- R226: dst = map_by_idx(imm)
  | ldMapIdxVal (dst : Reg) (imm : BitVec 32) (next : BitVec 32) -- R227: dst = map_val(map_by_idx(imm)) + next_imm
  -- Legacy packet access (45_imm64_legacy.md)
  | ldAbsW (dst : BitVec 4) (src : BitVec 4) (off : BitVec 16) (imm : BitVec 32) -- R231: legacy packet access, named and not specified
  | ldAbsH (dst : BitVec 4) (src : BitVec 4) (off : BitVec 16) (imm : BitVec 32) -- R231: legacy packet access, named and not specified
  | ldAbsB (dst : BitVec 4) (src : BitVec 4) (off : BitVec 16) (imm : BitVec 32) -- R231: legacy packet access, named and not specified
  | ldAbsDW (dst : BitVec 4) (src : BitVec 4) (off : BitVec 16) (imm : BitVec 32) -- R231: legacy packet access, named and not specified
  | ldIndW (dst : BitVec 4) (src : BitVec 4) (off : BitVec 16) (imm : BitVec 32) -- R231: legacy packet access, named and not specified
  | ldIndH (dst : BitVec 4) (src : BitVec 4) (off : BitVec 16) (imm : BitVec 32) -- R231: legacy packet access, named and not specified
  | ldIndB (dst : BitVec 4) (src : BitVec 4) (off : BitVec 16) (imm : BitVec 32) -- R231: legacy packet access, named and not specified
  | ldIndDW (dst : BitVec 4) (src : BitVec 4) (off : BitVec 16) (imm : BitVec 32) -- R231: legacy packet access, named and not specified
deriving DecidableEq, Repr

end Sys2Proof
end

