-- ==== Sys2Proof/Machine/State.lean ====
section
/-! DEFINITION. The machine's state (10_state.md), its faults (60_exceptions.md R242) and the state after reset (R36). -/

namespace Sys2Proof.Machine

/-- A lookup of the 64-bit immediate instructions, with its key (45_imm64_legacy.md R222 to R227). -/
inductive Lookup where
  | mapFd (fd : BitVec 32)
  | mapIdx (idx : BitVec 32)
  | mapVal (map : Word)
  | varId (id : BitVec 32)
  | code (imm : BitVec 32)
deriving DecidableEq, Repr

/-- The nine faults of 60_exceptions.md R242, each with what it records. A fault ends the run and changes nothing else
(R241). All are safe: the model stops where the source gives no meaning, and a real platform may do something else. -/
inductive Fault where
  /-- Raised by the fetch of a slot outside the program (10_state.md R27) and of a missing second slot. Safe. -/
  | pcOutOfRange (pc : Int)
  /-- Raised at decode (30_encoding.md R80), by a write of R10 (10_state.md R24) and by a negative `next_imm`
  (45_imm64_legacy.md R223). Safe. -/
  | illegalInstruction (pc : Int)
  /-- Raised by the eight legacy packet opcodes (45_imm64_legacy.md R231). Safe. -/
  | legacyInstruction (opcode : BitVec 8)
  /-- Raised by a read of an unwritten register where the platform has the faulting reading (10_state.md R23). Safe. -/
  | unwrittenRegister (i : Reg)
  /-- Raised by a misaligned load or store when `STRICT_ALIGN`, and by a misaligned atomic (20_memory.md R43). Safe. -/
  | misaligned (ea : Word) (n : Nat)
  /-- Raised by an access the platform does not admit (20_memory.md R47). Safe. -/
  | memoryFault (ea : Word) (n : Nat) (kind : AccessKind)
  /-- Raised by a program-local call with a full call stack (42_jump.md R172). Safe. -/
  | callDepthExceeded
  /-- Raised by a helper call the platform has no helper for (42_jump.md R171, R173). Safe. -/
  | unknownHelper (id : BitVec 32)
  /-- Raised by a lookup the platform has no entry for (45_imm64_legacy.md R220). Safe. -/
  | platformLookupFailed (l : Lookup)
deriving DecidableEq, Repr

/-- Why there is no step at all. -/
inductive Refusal where
  /-- An instruction without a meaning; no arm of `exec` answers it. Safe. -/
  | notModelled (mnemonic : String)
  /-- Raised by `step` when the run is over, by exit or by fault: "no further step exists" (60_exceptions.md R241;
  42_jump.md R174). Safe. -/
  | runOver
deriving DecidableEq, Repr

/-- The run status `st` (10_state.md R35). A step never answers a faulted state, it answers the fault itself; the state
that records it is `State.settle` of Safety.lean. -/
inductive Status where
  | running
  | exited (v : Word)
  | faulted (f : Fault)
deriving DecidableEq, Repr

/-- The general registers R0 to R10 (10_state.md R20). -/
structure RegFile where
  r0 : RegCell
  r1 : RegCell
  r2 : RegCell
  r3 : RegCell
  r4 : RegCell
  r5 : RegCell
  r6 : RegCell
  r7 : RegCell
  r8 : RegCell
  r9 : RegCell
  r10 : RegCell
deriving DecidableEq, Repr

/-- A frame of the call stack (10_state.md R33): the return slot and the caller's R6 to R10 as they were. -/
structure Frame where
  ret : Int
  r6 : RegCell
  r7 : RegCell
  r8 : RegCell
  r9 : RegCell
  r10 : RegCell
deriving DecidableEq, Repr

/-- The state: the spec's tuple (10_state.md), the launch parameters, and two fields of the model's own. -/
structure State where
  /-- `x`: the general registers. -/
  regs : RegFile
  /-- `pc`: a slot index (10_state.md R25); any integer after a jump, checked at the next fetch (R27). -/
  pc : Int
  /-- `cs`: the call stack, newest frame first (10_state.md R33). -/
  cs : List Frame
  /-- `mem`: data memory (10_state.md R31). -/
  mem : Memory
  /-- `st`: the run status (10_state.md R35). -/
  st : Status
  /-- `PROG` (10_state.md R32); no instruction changes it. -/
  prog : List Slot
  /-- The other launch parameters (00_scope.md R5); no instruction changes them. -/
  plat : Platform
  /-- The model's own: the answers the platform has ready for the helper calls to come (notes/assumptions/9.md). -/
  helperQueue : List HelperAnswer
  /-- The model's own: the index of the next free value (notes/assumptions/3.md, 9.md). -/
  draws : Nat
deriving DecidableEq, Repr

/-- The registers at entry (10_state.md R36): R1 = `CTX`, R10 = `FP0`, R2 to R5 unwritten unless the launch gives them
values, all others unwritten. -/
def RegFile.entry (p : Platform) : RegFile :=
  let arg (k : Nat) : RegCell := match p.entryArgs[k]? with | some v => .word v | none => .unwritten
  { r0 := .unwritten, r1 := .word p.ctx, r2 := arg 0, r3 := arg 1, r4 := arg 2, r5 := arg 3, r6 := .unwritten,
    r7 := .unwritten, r8 := .unwritten, r9 := .unwritten, r10 := .word p.fp0 }

/-- The entry state of a launch (10_state.md R36; 70_reset_and_hazards.md R270, R272; 60_exceptions.md R254): the
platform supplies the parameters, the program and the initial memory. -/
def State.launch (p : Platform) (prog : List Slot) (mem : Memory) : State :=
  { regs := RegFile.entry p, pc := 0, cs := [], mem := mem, st := .running, prog := prog, plat := p,
    helperQueue := [], draws := 0 }

/-- The machine right after reset: the entry state (10_state.md R36) of the default platform, with no program and no
memory listed (notes/assumptions/12.md). -/
def State.reset : State := State.launch Config.defaultPlatform [] []

end Sys2Proof.Machine
end

