-- ==== Sys2Proof/Machine/Ops.lean ====
section
/-! DEFINITION. The named operations over registers, memory, the call stack and the platform. -/

namespace Sys2Proof.Machine

/-- What an instruction answers. -/
abbrev Result := Host.Outcome State Fault Refusal

/-! ### Registers -/

/-- What register `i` holds. -/
def RegFile.get (r : RegFile) : Reg → RegCell
  | .r0 => r.r0
  | .r1 => r.r1
  | .r2 => r.r2
  | .r3 => r.r3
  | .r4 => r.r4
  | .r5 => r.r5
  | .r6 => r.r6
  | .r7 => r.r7
  | .r8 => r.r8
  | .r9 => r.r9
  | .r10 => r.r10

/-- The registers with the content of register `i` replaced. -/
def RegFile.set (r : RegFile) (i : Reg) (c : RegCell) : RegFile :=
  match i with
  | .r0 => { r with r0 := c }
  | .r1 => { r with r1 := c }
  | .r2 => { r with r2 := c }
  | .r3 => { r with r3 := c }
  | .r4 => { r with r4 := c }
  | .r5 => { r with r5 := c }
  | .r6 => { r with r6 := c }
  | .r7 => { r with r7 := c }
  | .r8 => { r with r8 := c }
  | .r9 => { r with r9 := c }
  | .r10 => { r with r10 := c }

/-- The state with register `i` replaced. -/
def State.setReg (s : State) (i : Reg) (c : RegCell) : State := { s with regs := s.regs.set i c }

/-- R1 to R5 become unwritten (42_jump.md R171, R174). -/
def State.clobberArgs (s : State) : State :=
  { s with regs := { s.regs with r1 := .unwritten, r2 := .unwritten, r3 := .unwritten, r4 := .unwritten, r5 := .unwritten } }

/-- R6 to R9 become unwritten (42_jump.md R172). -/
def State.clobberSaved (s : State) : State :=
  { s with regs := { s.regs with r6 := .unwritten, r7 := .unwritten, r8 := .unwritten, r9 := .unwritten } }

/-- R6 to R10 are put back as the frame saved them (42_jump.md R174). -/
def State.restoreSaved (s : State) (f : Frame) : State :=
  { s with regs := { s.regs with r6 := f.r6, r7 := f.r7, r8 := f.r8, r9 := f.r9, r10 := f.r10 } }

/-! ### The other parts of the state -/

/-- `pc` moves on by `k` slots (10_state.md R26). -/
def State.advance (s : State) (k : Int) : State := { s with pc := s.pc + k }

/-- `pc` is set. -/
def State.goto (s : State) (t : Int) : State := { s with pc := t }

/-- Memory is replaced. -/
def State.setMem (s : State) (m : Memory) : State := { s with mem := m }

/-- The call stack is replaced. -/
def State.setCs (s : State) (cs : List Frame) : State := { s with cs := cs }

/-- The run status is replaced. -/
def State.setStatus (s : State) (st : Status) : State := { s with st := st }

/-- One free value is used up. -/
def State.nextDraw (s : State) : State := { s with draws := s.draws + 1 }

/-- Where a jump or call with displacement `d` goes: the slot after the instruction, plus `d` (10_state.md R26,
42_jump.md R151). -/
def jumpTarget (s : State) (d : Int) : Int := s.pc + 1 + d

/-! ### Faults and the reading of registers -/

/-- `raise F(info)` (60_exceptions.md R241): the step ends in the fault and changes no state. There is no trap entry, no
handler and no return from one (R245). -/
def raise (f : Fault) : Result := .fault f

/-- An instruction that would write R10 raises `IllegalInstruction` and writes nothing (10_state.md R24). -/
def guardDst (dst : Reg) (s : State) (r : Result) : Result :=
  if dst = .r10 then raise (.illegalInstruction s.pc) else r

/-- What a read of register `i` gives (`x[i]` of 00_scope.md R8), with the state after it, or none where the read
faults. An unwritten register gives an arbitrary value, a fresh one at each read, or nothing, as the platform has it
(10_state.md R23). -/
def State.readReg (s : State) (i : Reg) : Option (Word × State) :=
  match s.regs.get i with
  | .word v => some (v, s)
  | .unwritten =>
    match s.plat.unwrittenRead with
    | .draw => some (Config.freeReg s.draws, s.nextDraw)
    | .fault => none

/-- Read register `i` and go on with its value, or raise `UnwrittenRegister` (10_state.md R23). -/
def withReg (i : Reg) (s : State) (k : Word → State → Result) : Result :=
  match s.readReg i with
  | some (v, s') => k v s'
  | none => raise (.unwrittenRegister i)

/-- Go on with the platform's answer to a lookup, or raise `PlatformLookupFailed` (45_imm64_legacy.md R220). -/
def withLookup (answer : Option Word) (l : Lookup) (k : Word → Result) : Result :=
  match answer with
  | some v => k v
  | none => raise (.platformLookupFailed l)

/-! ### Memory -/

/-- The addresses of a list rise strictly from `lo` on and are 64-bit addresses. -/
def risingFrom : Nat → Memory → Bool
  | _, [] => true
  | lo, (a, _) :: m => decide (lo ≤ a) && decide (a < 2 ^ 64) && risingFrom (a + 1) m

/-- The canonical form of memory: addresses strictly rising, each below 2^64. An unlisted address holds no value, so no
entry can equal what an unlisted address holds. -/
def memoryWf (m : Memory) : Bool := risingFrom 0 m

/-- The byte listed for an address, if one is. -/
def lookupByte : Memory → Nat → Option Byte
  | [], _ => none
  | (a', b) :: m, a => if a = a' then some b else lookupByte m a

/-- A read of one byte: what was last written there, or an arbitrary value fixed for the address (20_memory.md R48). -/
def readByte (m : Memory) (a : Nat) : Byte :=
  match lookupByte m a with
  | some b => b
  | none => Config.freeByte a

/-- A write of one byte, which keeps the list in canonical form. -/
def writeByte : Memory → Nat → Byte → Memory
  | [], a, b => [(a, b)]
  | (a', b') :: m, a, b =>
    if a < a' then (a, b) :: (a', b') :: m
    else if a = a' then (a, b) :: m
    else (a', b') :: writeByte m a b

/-- The `n` bytes from address `a` up. -/
def readBytes (m : Memory) (a : Nat) : Nat → List Byte
  | 0 => []
  | n + 1 => readByte m a :: readBytes m (a + 1) n

/-- The bytes of a list written from address `a` up. -/
def writeBytes (m : Memory) (a : Nat) : List Byte → Memory
  | [] => m
  | b :: bs => writeBytes (writeByte m a b) (a + 1) bs

/-- Single bytes written in order, each at its address: what a helper does to memory (42_jump.md R171). -/
def writeAll (m : Memory) : List (Word × Byte) → Memory
  | [] => m
  | (a, b) :: ws => writeAll (writeByte m a.toNat b) ws

/-- The number whose bytes these are, the least significant first. -/
def natOfBytes : List Byte → Nat
  | [] => 0
  | b :: bs => b.toNat + 256 * natOfBytes bs

/-- The `n` low bytes of a number, the least significant first. -/
def bytesOfNat : Nat → Nat → List Byte
  | 0, _ => []
  | n + 1, v => BitVec.ofNat 8 v :: bytesOfNat n (v / 256)

/-- Bytes in memory order to bytes with the least significant first, and back (20_memory.md R40). -/
def inOrder (e : Endian) (bs : List Byte) : List Byte :=
  match e with
  | .little => bs
  | .big => bs.reverse

/-- `MemRead(addr, n)` (20_memory.md R40), after its checks: an unsigned number of `8 n` bits. -/
def memRead (e : Endian) (m : Memory) (ea : Word) (n : Nat) : Nat :=
  natOfBytes (inOrder e (readBytes m ea.toNat n))

/-- `MemWrite(addr, n, v)` (20_memory.md R40), after its checks: the low `8 n` bits of `v`. -/
def memWrite (e : Endian) (m : Memory) (ea : Word) (n v : Nat) : Memory :=
  writeBytes m ea.toNat (inOrder e (bytesOfNat n v))

/-! ### Admission of accesses -/

/-- `FrameTop(k)` (00_scope.md R5): R10 in a function entered with `k` frames on the call stack; `FrameTop(0) = FP0`,
and by default `FP0 - k * STACK_SIZE`, modulo 2^64 (notes/assumptions/6.md). -/
def frameTop (p : Platform) : Nat → Word
  | 0 => p.fp0
  | k + 1 =>
    match p.frameTops[k]? with
    | some v => v
    | none => p.fp0 - BitVec.ofNat 64 ((k + 1) * p.stackSize)

/-- The stack region of the function entered with `k` frames on the call stack: the `STACK_SIZE` bytes below its
`FrameTop` (00_scope.md R5; 10_state.md R36; 20_memory.md R49). DESIGN CHOICE (notes/assumptions/23.md): where `FrameTop`
is below `STACK_SIZE` the spec does not say whether these bytes wrap modulo 2^64; the region is cut off at address 0,
and is empty where `FrameTop` is 0. DESIGN CHOICE (notes/assumptions/24.md): whether it admits atomic accesses is a
launch parameter. -/
def stackRegion (p : Platform) (k : Nat) : Region :=
  let top := (frameTop p k).toNat
  { base := top - p.stackSize, size := min p.stackSize top, read := true, write := true, atomic := p.stackAtomic }

/-- Whether a region permits a kind of access (20_memory.md R47). -/
def regionPermits (r : Region) (kind : AccessKind) : Bool :=
  match kind with
  | .read => r.read
  | .write => r.write
  | .atomic => r.atomic

/-- Whether the `n` bytes from `a` up lie inside a region. -/
def regionHolds (r : Region) (a n : Nat) : Bool := decide (r.base ≤ a) && decide (a + n ≤ r.base + r.size)

/-- The regions accesses are admitted in: the platform's, and the stack region of each depth (20_memory.md R49). -/
def admittedRegions (p : Platform) : List Region :=
  p.regions ++ (List.range (p.maxCallDepth + 1)).map (stackRegion p)

/-- Whether the launch permits an access of a kind: its bytes lie in one region that permits the kind, or the launch
lists this very access (00_scope.md R5, `MemAdmit(addr, n, kind)`; notes/assumptions/7.md). -/
def permitted (p : Platform) (ea : Word) (n : Nat) (kind : AccessKind) : Bool :=
  ((admittedRegions p).any fun r => regionPermits r kind && regionHolds r ea.toNat n) || p.accesses.contains ⟨ea, n, kind⟩

/-- `MemAdmit(addr, n, kind)` (20_memory.md R47): no access passes the top of the address space, the launch permits it,
and an atomic access has read and write permission on its bytes too. -/
def memAdmit (p : Platform) (ea : Word) (n : Nat) (kind : AccessKind) : Bool :=
  decide (ea.toNat + n ≤ 2 ^ 64) && permitted p ea n kind &&
    (kind != .atomic || (permitted p ea n .read && permitted p ea n .write))

/-- The checks of an access, alignment before admission (43_load_store.md R180, steps 3 and 4; 20_memory.md R43, R47).
`strict` says whether a misaligned access faults. -/
def checkAccess (strict : Bool) (ea : Word) (n : Nat) (kind : AccessKind) (s : State) (k : Result) : Result :=
  if strict && ea.toNat % n != 0 then raise (.misaligned ea n)
  else if memAdmit s.plat ea n kind then k
  else raise (.memoryFault ea n kind)

end Sys2Proof.Machine
end

