-- ==== Sys2Proof/Machine/Operands.lean ====
section
/-! DEFINITION. How fields become operands (30_encoding.md R68), the arithmetic of 40_alu.md and 41_byteswap.md, and the
shared forms of an arithmetic instruction. -/

namespace Sys2Proof.Machine

/-! ### Operands -/

/-- Extension to 64 bits with zero bits (00_scope.md R8). -/
def zext64 {w : Nat} (v : BitVec w) : Word := v.setWidth 64

/-- `sext_N(v)`: sign extension to `n` bits (00_scope.md R8, R12). -/
def sext {w : Nat} (n : Nat) (v : BitVec w) : BitVec n := v.signExtend n

/-- Sign extension to 64 bits (00_scope.md R12). -/
def sext64 {w : Nat} (v : BitVec w) : Word := sext 64 v

/-- `imm` as the source operand of a `w`-bit operation: sign-extended to 64 bits, or taken as the 32-bit pattern it is
(30_encoding.md R68; 40_alu.md R101; 42_jump.md R150). -/
def immOperand (w : Nat) (imm : BitVec 32) : BitVec w := sext w imm

/-- The effective address of a load, store or atomic: base plus sign-extended offset, modulo 2^64 (20_memory.md R51). -/
def effectiveAddress (base : Word) (off : BitVec 16) : Word := base + sext64 off

/-- The 64-bit immediate, `next_imm` above `imm` (30_encoding.md R67). -/
def imm64 (next imm : BitVec 32) : Word := next ++ imm

/-! ### Arithmetic on `w` bits; every result wraps (40_alu.md R100) -/

/-- 40_alu.md R104. -/
def aluAdd {w : Nat} (a b : BitVec w) : BitVec w := a + b

/-- 40_alu.md R105. -/
def aluSub {w : Nat} (a b : BitVec w) : BitVec w := a - b

/-- 40_alu.md R106. -/
def aluMul {w : Nat} (a b : BitVec w) : BitVec w := a * b

/-- 40_alu.md R107: unsigned division, 0 for a zero divisor. -/
def aluDiv {w : Nat} (a b : BitVec w) : BitVec w :=
  if b = 0#w then 0#w else BitVec.ofNat w (a.toNat / b.toNat)

/-- 40_alu.md R103, R108: signed division truncated toward zero, 0 for a zero divisor; the one quotient that does not
fit wraps. -/
def aluSdiv {w : Nat} (a b : BitVec w) : BitVec w :=
  if b = 0#w then 0#w else BitVec.ofInt w (Int.tdiv a.toInt b.toInt)

/-- 40_alu.md R109. -/
def aluOr {w : Nat} (a b : BitVec w) : BitVec w := a ||| b

/-- 40_alu.md R110. -/
def aluAnd {w : Nat} (a b : BitVec w) : BitVec w := a &&& b

/-- The shift amount: only the low 6 or 5 bits count, `b & (W - 1)` (40_alu.md R102). -/
def shiftAmount {w : Nat} (b : BitVec w) : Nat := (b &&& BitVec.ofNat w (w - 1)).toNat

/-- 40_alu.md R111. -/
def aluLsh {w : Nat} (a b : BitVec w) : BitVec w := a <<< shiftAmount b

/-- 40_alu.md R112: the logical right shift. -/
def aluRsh {w : Nat} (a b : BitVec w) : BitVec w := a >>> shiftAmount b

/-- 40_alu.md R113. -/
def aluNeg {w : Nat} (a : BitVec w) : BitVec w := 0#w - a

/-- 40_alu.md R114: unsigned modulo, the dividend for a zero divisor. -/
def aluMod {w : Nat} (a b : BitVec w) : BitVec w :=
  if b = 0#w then a else BitVec.ofNat w (a.toNat % b.toNat)

/-- 40_alu.md R103, R115: signed modulo by truncated division, the dividend for a zero divisor. -/
def aluSmod {w : Nat} (a b : BitVec w) : BitVec w :=
  if b = 0#w then a else BitVec.ofInt w (Int.tmod a.toInt b.toInt)

/-- 40_alu.md R116. -/
def aluXor {w : Nat} (a b : BitVec w) : BitVec w := a ^^^ b

/-- 40_alu.md R119: the arithmetic right shift. -/
def aluArsh {w : Nat} (a b : BitVec w) : BitVec w := a.sshiftRight (shiftAmount b)

/-! ### Byte order (00_scope.md R9 to R11) -/

/-- `bswap16` (00_scope.md R11). -/
def bswap16 (v : BitVec 16) : BitVec 16 := v.extractLsb' 0 8 ++ v.extractLsb' 8 8

/-- `bswap32` (00_scope.md R11). -/
def bswap32 (v : BitVec 32) : BitVec 32 :=
  v.extractLsb' 0 8 ++ v.extractLsb' 8 8 ++ v.extractLsb' 16 8 ++ v.extractLsb' 24 8

/-- `bswap64` (00_scope.md R11). -/
def bswap64 (v : BitVec 64) : BitVec 64 :=
  v.extractLsb' 0 8 ++ v.extractLsb' 8 8 ++ v.extractLsb' 16 8 ++ v.extractLsb' 24 8 ++ v.extractLsb' 32 8 ++
    v.extractLsb' 40 8 ++ v.extractLsb' 48 8 ++ v.extractLsb' 56 8

/-- `htoleN`: the identity on a little-endian host, `bswapN` on a big-endian one (00_scope.md R10). -/
def htole {w : Nat} (e : Endian) (swap : BitVec w → BitVec w) (v : BitVec w) : BitVec w :=
  match e with
  | .little => v
  | .big => swap v

/-- `htobeN`: the identity on a big-endian host, `bswapN` on a little-endian one (00_scope.md R9). -/
def htobe {w : Nat} (e : Endian) (swap : BitVec w → BitVec w) (v : BitVec w) : BitVec w :=
  match e with
  | .little => swap v
  | .big => v

/-! ### The forms of an arithmetic instruction of `w` bits -/

/-- The end of an arithmetic instruction: the result is zero-extended into the destination (40_alu.md R100) and `pc`
moves on. -/
def writeResult {w : Nat} (dst : Reg) (v : BitVec w) (s : State) : Result :=
  .next ((s.setReg dst (.word (zext64 v))).advance 1)

/-- `dst = f dst imm` (40_alu.md R101, `BPF_K`). -/
def aluK (w : Nat) (f : BitVec w → BitVec w → BitVec w) (dst : Reg) (imm : BitVec 32) (s : State) : Result :=
  guardDst dst s <| withReg dst s fun a s => writeResult dst (f (a.setWidth w) (immOperand w imm)) s

/-- `dst = f dst src` (40_alu.md R101, `BPF_X`): both operands are read before the destination is written. -/
def aluX (w : Nat) (f : BitVec w → BitVec w → BitVec w) (dst src : Reg) (s : State) : Result :=
  guardDst dst s <| withReg dst s fun a s => withReg src s fun b s => writeResult dst (f (a.setWidth w) (b.setWidth w)) s

/-- `dst = f dst` on the low `w` bits (40_alu.md R113; 41_byteswap.md R144). -/
def aluUnary (w : Nat) (f : BitVec w → BitVec w) (dst : Reg) (s : State) : Result :=
  guardDst dst s <| withReg dst s fun a s => writeResult dst (f (a.setWidth w)) s

/-- `dst = imm`; the old value of `dst` is not read (40_alu.md R117). -/
def movK (w : Nat) (dst : Reg) (imm : BitVec 32) (s : State) : Result :=
  guardDst dst s <| writeResult dst (immOperand w imm) s

/-- `dst = src`; the old value of `dst` is not read (40_alu.md R117). -/
def movX (w : Nat) (dst src : Reg) (s : State) : Result :=
  guardDst dst s <| withReg src s fun b s => writeResult dst (b.setWidth w) s

/-- `dst = (sN)src`: the low `n` bits of `src`, sign-extended to `w` bits (40_alu.md R118). -/
def movsx (n w : Nat) (dst src : Reg) (s : State) : Result :=
  guardDst dst s <| withReg src s fun b s => writeResult dst (sext w (b.setWidth n)) s

end Sys2Proof.Machine
end

