-- ==== Sys2Proof/Machine/Alu32.lean ====
section
/-! DEFINITION. The arithmetic instructions of class BPF_ALU (40_alu.md R100 to R120): 32-bit operands, result zero-extended. -/

namespace Sys2Proof.Machine

/-- BPF_ALU | BPF_ADD | BPF_K (40_alu.md R104): dst += src. -/
def execAdd32K (dst : Reg) (imm : BitVec 32) (s : State) : Result :=
  aluK 32 aluAdd dst imm s

/-- BPF_ALU | BPF_ADD | BPF_X (40_alu.md R104): dst += src. -/
def execAdd32X (dst : Reg) (src : Reg) (s : State) : Result :=
  aluX 32 aluAdd dst src s

/-- BPF_ALU | BPF_SUB | BPF_K (40_alu.md R105): dst -= src. -/
def execSub32K (dst : Reg) (imm : BitVec 32) (s : State) : Result :=
  aluK 32 aluSub dst imm s

/-- BPF_ALU | BPF_SUB | BPF_X (40_alu.md R105): dst -= src. -/
def execSub32X (dst : Reg) (src : Reg) (s : State) : Result :=
  aluX 32 aluSub dst src s

/-- BPF_ALU | BPF_MUL | BPF_K (40_alu.md R106): dst *= src. -/
def execMul32K (dst : Reg) (imm : BitVec 32) (s : State) : Result :=
  aluK 32 aluMul dst imm s

/-- BPF_ALU | BPF_MUL | BPF_X (40_alu.md R106): dst *= src. -/
def execMul32X (dst : Reg) (src : Reg) (s : State) : Result :=
  aluX 32 aluMul dst src s

/-- BPF_ALU | BPF_DIV | BPF_K (40_alu.md R107): dst = (src != 0) ? (dst / src) : 0, unsigned. -/
def execDiv32K (dst : Reg) (imm : BitVec 32) (s : State) : Result :=
  aluK 32 aluDiv dst imm s

/-- BPF_ALU | BPF_DIV | BPF_X (40_alu.md R107): dst = (src != 0) ? (dst / src) : 0, unsigned. -/
def execDiv32X (dst : Reg) (src : Reg) (s : State) : Result :=
  aluX 32 aluDiv dst src s

/-- BPF_ALU | BPF_SDIV | BPF_K (40_alu.md R108): dst = (src != 0) ? (dst s/ src) : 0, signed. -/
def execSdiv32K (dst : Reg) (imm : BitVec 32) (s : State) : Result :=
  aluK 32 aluSdiv dst imm s

/-- BPF_ALU | BPF_SDIV | BPF_X (40_alu.md R108): dst = (src != 0) ? (dst s/ src) : 0, signed. -/
def execSdiv32X (dst : Reg) (src : Reg) (s : State) : Result :=
  aluX 32 aluSdiv dst src s

/-- BPF_ALU | BPF_OR | BPF_K (40_alu.md R109): dst |= src. -/
def execOr32K (dst : Reg) (imm : BitVec 32) (s : State) : Result :=
  aluK 32 aluOr dst imm s

/-- BPF_ALU | BPF_OR | BPF_X (40_alu.md R109): dst |= src. -/
def execOr32X (dst : Reg) (src : Reg) (s : State) : Result :=
  aluX 32 aluOr dst src s

/-- BPF_ALU | BPF_AND | BPF_K (40_alu.md R110): dst &= src. -/
def execAnd32K (dst : Reg) (imm : BitVec 32) (s : State) : Result :=
  aluK 32 aluAnd dst imm s

/-- BPF_ALU | BPF_AND | BPF_X (40_alu.md R110): dst &= src. -/
def execAnd32X (dst : Reg) (src : Reg) (s : State) : Result :=
  aluX 32 aluAnd dst src s

/-- BPF_ALU | BPF_LSH | BPF_K (40_alu.md R111): dst <<= (src & mask). -/
def execLsh32K (dst : Reg) (imm : BitVec 32) (s : State) : Result :=
  aluK 32 aluLsh dst imm s

/-- BPF_ALU | BPF_LSH | BPF_X (40_alu.md R111): dst <<= (src & mask). -/
def execLsh32X (dst : Reg) (src : Reg) (s : State) : Result :=
  aluX 32 aluLsh dst src s

/-- BPF_ALU | BPF_RSH | BPF_K (40_alu.md R112): dst >>= (src & mask). -/
def execRsh32K (dst : Reg) (imm : BitVec 32) (s : State) : Result :=
  aluK 32 aluRsh dst imm s

/-- BPF_ALU | BPF_RSH | BPF_X (40_alu.md R112): dst >>= (src & mask). -/
def execRsh32X (dst : Reg) (src : Reg) (s : State) : Result :=
  aluX 32 aluRsh dst src s

/-- BPF_ALU | BPF_MOD | BPF_K (40_alu.md R114): dst = (src != 0) ? (dst % src) : dst, unsigned. -/
def execMod32K (dst : Reg) (imm : BitVec 32) (s : State) : Result :=
  aluK 32 aluMod dst imm s

/-- BPF_ALU | BPF_MOD | BPF_X (40_alu.md R114): dst = (src != 0) ? (dst % src) : dst, unsigned. -/
def execMod32X (dst : Reg) (src : Reg) (s : State) : Result :=
  aluX 32 aluMod dst src s

/-- BPF_ALU | BPF_SMOD | BPF_K (40_alu.md R115): dst = (src != 0) ? (dst s% src) : dst, signed. -/
def execSmod32K (dst : Reg) (imm : BitVec 32) (s : State) : Result :=
  aluK 32 aluSmod dst imm s

/-- BPF_ALU | BPF_SMOD | BPF_X (40_alu.md R115): dst = (src != 0) ? (dst s% src) : dst, signed. -/
def execSmod32X (dst : Reg) (src : Reg) (s : State) : Result :=
  aluX 32 aluSmod dst src s

/-- BPF_ALU | BPF_XOR | BPF_K (40_alu.md R116): dst ^= src. -/
def execXor32K (dst : Reg) (imm : BitVec 32) (s : State) : Result :=
  aluK 32 aluXor dst imm s

/-- BPF_ALU | BPF_XOR | BPF_X (40_alu.md R116): dst ^= src. -/
def execXor32X (dst : Reg) (src : Reg) (s : State) : Result :=
  aluX 32 aluXor dst src s

/-- BPF_ALU | BPF_ARSH | BPF_K (40_alu.md R119): sign extending dst >>= (src & mask). -/
def execArsh32K (dst : Reg) (imm : BitVec 32) (s : State) : Result :=
  aluK 32 aluArsh dst imm s

/-- BPF_ALU | BPF_ARSH | BPF_X (40_alu.md R119): sign extending dst >>= (src & mask). -/
def execArsh32X (dst : Reg) (src : Reg) (s : State) : Result :=
  aluX 32 aluArsh dst src s

/-- BPF_ALU | BPF_NEG (40_alu.md R113): dst = -dst. -/
def execNeg32 (dst : Reg) (s : State) : Result :=
  aluUnary 32 aluNeg dst s

/-- BPF_ALU | BPF_MOV | BPF_K (40_alu.md R117): dst = src. -/
def execMov32K (dst : Reg) (imm : BitVec 32) (s : State) : Result :=
  movK 32 dst imm s

/-- BPF_ALU | BPF_MOV | BPF_X (40_alu.md R117): dst = src. -/
def execMov32X (dst : Reg) (src : Reg) (s : State) : Result :=
  movX 32 dst src s

/-- BPF_ALU | BPF_MOVSX | BPF_X, offset 8 (40_alu.md R118): dst = (s8)src. -/
def execMovsx8to32 (dst : Reg) (src : Reg) (s : State) : Result :=
  movsx 8 32 dst src s

/-- BPF_ALU | BPF_MOVSX | BPF_X, offset 16 (40_alu.md R118): dst = (s16)src. -/
def execMovsx16to32 (dst : Reg) (src : Reg) (s : State) : Result :=
  movsx 16 32 dst src s

end Sys2Proof.Machine
end

