-- ==== Sys2Proof/Machine/Alu64.lean ====
section
/-! DEFINITION. The arithmetic instructions of class BPF_ALU64 (40_alu.md R100 to R120): 64-bit operands. -/

namespace Sys2Proof.Machine

/-- BPF_ALU64 | BPF_ADD | BPF_K (40_alu.md R104): dst += src. -/
def execAdd64K (dst : Reg) (imm : BitVec 32) (s : State) : Result :=
  aluK 64 aluAdd dst imm s

/-- BPF_ALU64 | BPF_ADD | BPF_X (40_alu.md R104): dst += src. -/
def execAdd64X (dst : Reg) (src : Reg) (s : State) : Result :=
  aluX 64 aluAdd dst src s

/-- BPF_ALU64 | BPF_SUB | BPF_K (40_alu.md R105): dst -= src. -/
def execSub64K (dst : Reg) (imm : BitVec 32) (s : State) : Result :=
  aluK 64 aluSub dst imm s

/-- BPF_ALU64 | BPF_SUB | BPF_X (40_alu.md R105): dst -= src. -/
def execSub64X (dst : Reg) (src : Reg) (s : State) : Result :=
  aluX 64 aluSub dst src s

/-- BPF_ALU64 | BPF_MUL | BPF_K (40_alu.md R106): dst *= src. -/
def execMul64K (dst : Reg) (imm : BitVec 32) (s : State) : Result :=
  aluK 64 aluMul dst imm s

/-- BPF_ALU64 | BPF_MUL | BPF_X (40_alu.md R106): dst *= src. -/
def execMul64X (dst : Reg) (src : Reg) (s : State) : Result :=
  aluX 64 aluMul dst src s

/-- BPF_ALU64 | BPF_DIV | BPF_K (40_alu.md R107): dst = (src != 0) ? (dst / src) : 0, unsigned. -/
def execDiv64K (dst : Reg) (imm : BitVec 32) (s : State) : Result :=
  aluK 64 aluDiv dst imm s

/-- BPF_ALU64 | BPF_DIV | BPF_X (40_alu.md R107): dst = (src != 0) ? (dst / src) : 0, unsigned. -/
def execDiv64X (dst : Reg) (src : Reg) (s : State) : Result :=
  aluX 64 aluDiv dst src s

/-- BPF_ALU64 | BPF_SDIV | BPF_K (40_alu.md R108): dst = (src != 0) ? (dst s/ src) : 0, signed. -/
def execSdiv64K (dst : Reg) (imm : BitVec 32) (s : State) : Result :=
  aluK 64 aluSdiv dst imm s

/-- BPF_ALU64 | BPF_SDIV | BPF_X (40_alu.md R108): dst = (src != 0) ? (dst s/ src) : 0, signed. -/
def execSdiv64X (dst : Reg) (src : Reg) (s : State) : Result :=
  aluX 64 aluSdiv dst src s

/-- BPF_ALU64 | BPF_OR | BPF_K (40_alu.md R109): dst |= src. -/
def execOr64K (dst : Reg) (imm : BitVec 32) (s : State) : Result :=
  aluK 64 aluOr dst imm s

/-- BPF_ALU64 | BPF_OR | BPF_X (40_alu.md R109): dst |= src. -/
def execOr64X (dst : Reg) (src : Reg) (s : State) : Result :=
  aluX 64 aluOr dst src s

/-- BPF_ALU64 | BPF_AND | BPF_K (40_alu.md R110): dst &= src. -/
def execAnd64K (dst : Reg) (imm : BitVec 32) (s : State) : Result :=
  aluK 64 aluAnd dst imm s

/-- BPF_ALU64 | BPF_AND | BPF_X (40_alu.md R110): dst &= src. -/
def execAnd64X (dst : Reg) (src : Reg) (s : State) : Result :=
  aluX 64 aluAnd dst src s

/-- BPF_ALU64 | BPF_LSH | BPF_K (40_alu.md R111): dst <<= (src & mask). -/
def execLsh64K (dst : Reg) (imm : BitVec 32) (s : State) : Result :=
  aluK 64 aluLsh dst imm s

/-- BPF_ALU64 | BPF_LSH | BPF_X (40_alu.md R111): dst <<= (src & mask). -/
def execLsh64X (dst : Reg) (src : Reg) (s : State) : Result :=
  aluX 64 aluLsh dst src s

/-- BPF_ALU64 | BPF_RSH | BPF_K (40_alu.md R112): dst >>= (src & mask). -/
def execRsh64K (dst : Reg) (imm : BitVec 32) (s : State) : Result :=
  aluK 64 aluRsh dst imm s

/-- BPF_ALU64 | BPF_RSH | BPF_X (40_alu.md R112): dst >>= (src & mask). -/
def execRsh64X (dst : Reg) (src : Reg) (s : State) : Result :=
  aluX 64 aluRsh dst src s

/-- BPF_ALU64 | BPF_MOD | BPF_K (40_alu.md R114): dst = (src != 0) ? (dst % src) : dst, unsigned. -/
def execMod64K (dst : Reg) (imm : BitVec 32) (s : State) : Result :=
  aluK 64 aluMod dst imm s

/-- BPF_ALU64 | BPF_MOD | BPF_X (40_alu.md R114): dst = (src != 0) ? (dst % src) : dst, unsigned. -/
def execMod64X (dst : Reg) (src : Reg) (s : State) : Result :=
  aluX 64 aluMod dst src s

/-- BPF_ALU64 | BPF_SMOD | BPF_K (40_alu.md R115): dst = (src != 0) ? (dst s% src) : dst, signed. -/
def execSmod64K (dst : Reg) (imm : BitVec 32) (s : State) : Result :=
  aluK 64 aluSmod dst imm s

/-- BPF_ALU64 | BPF_SMOD | BPF_X (40_alu.md R115): dst = (src != 0) ? (dst s% src) : dst, signed. -/
def execSmod64X (dst : Reg) (src : Reg) (s : State) : Result :=
  aluX 64 aluSmod dst src s

/-- BPF_ALU64 | BPF_XOR | BPF_K (40_alu.md R116): dst ^= src. -/
def execXor64K (dst : Reg) (imm : BitVec 32) (s : State) : Result :=
  aluK 64 aluXor dst imm s

/-- BPF_ALU64 | BPF_XOR | BPF_X (40_alu.md R116): dst ^= src. -/
def execXor64X (dst : Reg) (src : Reg) (s : State) : Result :=
  aluX 64 aluXor dst src s

/-- BPF_ALU64 | BPF_ARSH | BPF_K (40_alu.md R119): sign extending dst >>= (src & mask). -/
def execArsh64K (dst : Reg) (imm : BitVec 32) (s : State) : Result :=
  aluK 64 aluArsh dst imm s

/-- BPF_ALU64 | BPF_ARSH | BPF_X (40_alu.md R119): sign extending dst >>= (src & mask). -/
def execArsh64X (dst : Reg) (src : Reg) (s : State) : Result :=
  aluX 64 aluArsh dst src s

/-- BPF_ALU64 | BPF_NEG (40_alu.md R113): dst = -dst. -/
def execNeg64 (dst : Reg) (s : State) : Result :=
  aluUnary 64 aluNeg dst s

/-- BPF_ALU64 | BPF_MOV | BPF_K (40_alu.md R117): dst = src. -/
def execMov64K (dst : Reg) (imm : BitVec 32) (s : State) : Result :=
  movK 64 dst imm s

/-- BPF_ALU64 | BPF_MOV | BPF_X (40_alu.md R117): dst = src. -/
def execMov64X (dst : Reg) (src : Reg) (s : State) : Result :=
  movX 64 dst src s

/-- BPF_ALU64 | BPF_MOVSX | BPF_X, offset 8 (40_alu.md R118): dst = (s8)src. -/
def execMovsx8to64 (dst : Reg) (src : Reg) (s : State) : Result :=
  movsx 8 64 dst src s

/-- BPF_ALU64 | BPF_MOVSX | BPF_X, offset 16 (40_alu.md R118): dst = (s16)src. -/
def execMovsx16to64 (dst : Reg) (src : Reg) (s : State) : Result :=
  movsx 16 64 dst src s

/-- BPF_ALU64 | BPF_MOVSX | BPF_X, offset 32 (40_alu.md R118): dst = (s32)src. -/
def execMovsx32to64 (dst : Reg) (src : Reg) (s : State) : Result :=
  movsx 32 64 dst src s

end Sys2Proof.Machine
end

