-- ==== Sys2Proof/Machine/Atomic.lean ====
section
/-! DEFINITION. Atomic operations (44_atomic.md R200 to R214). -/

namespace Sys2Proof.Machine

/-- Steps 2 to 5 of 44_atomic.md R203 on `w` bits: the address is formed, checked for alignment whatever `STRICT_ALIGN`
is and for admission, and the old value is read. -/
def atomicAccess (w : Nat) (base : Word) (off : BitVec 16) (s : State) (k : Word → BitVec w → Result) : Result :=
  let ea := effectiveAddress base off
  checkAccess true ea (w / 8) .atomic s <| k ea (BitVec.ofNat w (memRead s.plat.endian s.mem ea (w / 8)))

/-- The state after the write of an atomic operation. -/
def atomicWrite (w : Nat) (ea : Word) (v : BitVec w) (s : State) : State :=
  s.setMem (memWrite s.plat.endian s.mem ea (w / 8) v.toNat)

/-- A simple atomic operation without `BPF_FETCH` (44_atomic.md R204, R206, R208, R210). -/
def atomicSimple (w : Nat) (f : BitVec w → BitVec w → BitVec w) (dst src : Reg) (off : BitVec 16) (s : State) : Result :=
  withReg dst s fun a s => withReg src s fun b s =>
    atomicAccess w a off s fun ea old => .next ((atomicWrite w ea (f old (b.setWidth w)) s).advance 1)

/-- An atomic operation that writes the old value, zero-extended, to `src` (44_atomic.md R202, R205, R207, R209, R211,
R213). `src` R10 is refused (10_state.md R24). -/
def atomicFetch (w : Nat) (f : BitVec w → BitVec w → BitVec w) (dst src : Reg) (off : BitVec 16) (s : State) : Result :=
  guardDst src s <| withReg dst s fun a s => withReg src s fun b s =>
    atomicAccess w a off s fun ea old =>
      .next (((atomicWrite w ea (f old (b.setWidth w)) s).setReg src (.word (zext64 old))).advance 1)

/-- What `BPF_XCHG` writes to memory: the source operand (44_atomic.md R213). -/
def atomicTakeSource {w : Nat} (_old b : BitVec w) : BitVec w := b

/-- `BPF_CMPXCHG` (44_atomic.md R212): registers are read in the order of 60_exceptions.md R244; memory is written only
where the old value equals the low `w` bits of R0; R0 takes the old value in either case. -/
def atomicCmpxchg (w : Nat) (dst src : Reg) (off : BitVec 16) (s : State) : Result :=
  withReg dst s fun a s => withReg src s fun b s => withReg .r0 s fun c s =>
    atomicAccess w a off s fun ea old =>
      let s1 := if old = c.setWidth w then atomicWrite w ea (b.setWidth w) s else s
      .next ((s1.setReg .r0 (.word (zext64 old))).advance 1)

/-- BPF_STX | BPF_ATOMIC | BPF_W, imm BPF_ADD (0x00) (44_atomic.md R204): *(u32 *)(dst + offset) += src. -/
def execAtomicAdd32 (dst : Reg) (src : Reg) (off : BitVec 16) (s : State) : Result :=
  atomicSimple 32 aluAdd dst src off s

/-- BPF_STX | BPF_ATOMIC | BPF_W, imm BPF_ADD | BPF_FETCH (0x01) (44_atomic.md R205): the same, and src takes the old value. -/
def execFetchAdd32 (dst : Reg) (src : Reg) (off : BitVec 16) (s : State) : Result :=
  atomicFetch 32 aluAdd dst src off s

/-- BPF_STX | BPF_ATOMIC | BPF_W, imm BPF_OR (0x40) (44_atomic.md R206): *(u32 *)(dst + offset) |= src. -/
def execAtomicOr32 (dst : Reg) (src : Reg) (off : BitVec 16) (s : State) : Result :=
  atomicSimple 32 aluOr dst src off s

/-- BPF_STX | BPF_ATOMIC | BPF_W, imm BPF_OR | BPF_FETCH (0x41) (44_atomic.md R207): the same, and src takes the old value. -/
def execFetchOr32 (dst : Reg) (src : Reg) (off : BitVec 16) (s : State) : Result :=
  atomicFetch 32 aluOr dst src off s

/-- BPF_STX | BPF_ATOMIC | BPF_W, imm BPF_AND (0x50) (44_atomic.md R208): *(u32 *)(dst + offset) &= src. -/
def execAtomicAnd32 (dst : Reg) (src : Reg) (off : BitVec 16) (s : State) : Result :=
  atomicSimple 32 aluAnd dst src off s

/-- BPF_STX | BPF_ATOMIC | BPF_W, imm BPF_AND | BPF_FETCH (0x51) (44_atomic.md R209): the same, and src takes the old value. -/
def execFetchAnd32 (dst : Reg) (src : Reg) (off : BitVec 16) (s : State) : Result :=
  atomicFetch 32 aluAnd dst src off s

/-- BPF_STX | BPF_ATOMIC | BPF_W, imm BPF_XOR (0xa0) (44_atomic.md R210): *(u32 *)(dst + offset) ^= src. -/
def execAtomicXor32 (dst : Reg) (src : Reg) (off : BitVec 16) (s : State) : Result :=
  atomicSimple 32 aluXor dst src off s

/-- BPF_STX | BPF_ATOMIC | BPF_W, imm BPF_XOR | BPF_FETCH (0xa1) (44_atomic.md R211): the same, and src takes the old value. -/
def execFetchXor32 (dst : Reg) (src : Reg) (off : BitVec 16) (s : State) : Result :=
  atomicFetch 32 aluXor dst src off s

/-- BPF_STX | BPF_ATOMIC | BPF_W, imm BPF_XCHG (0xe1) (44_atomic.md R213): exchanges src with *(u32 *)(dst + offset). -/
def execXchg32 (dst : Reg) (src : Reg) (off : BitVec 16) (s : State) : Result :=
  atomicFetch 32 atomicTakeSource dst src off s

/-- BPF_STX | BPF_ATOMIC | BPF_W, imm BPF_CMPXCHG (0xf1) (44_atomic.md R212): compares *(u32 *)(dst + offset) with R0; if they match it becomes src; R0 takes the old value. -/
def execCmpxchg32 (dst : Reg) (src : Reg) (off : BitVec 16) (s : State) : Result :=
  atomicCmpxchg 32 dst src off s

/-- BPF_STX | BPF_ATOMIC | BPF_DW, imm BPF_ADD (0x00) (44_atomic.md R204): *(u64 *)(dst + offset) += src. -/
def execAtomicAdd64 (dst : Reg) (src : Reg) (off : BitVec 16) (s : State) : Result :=
  atomicSimple 64 aluAdd dst src off s

/-- BPF_STX | BPF_ATOMIC | BPF_DW, imm BPF_ADD | BPF_FETCH (0x01) (44_atomic.md R205): the same, and src takes the old value. -/
def execFetchAdd64 (dst : Reg) (src : Reg) (off : BitVec 16) (s : State) : Result :=
  atomicFetch 64 aluAdd dst src off s

/-- BPF_STX | BPF_ATOMIC | BPF_DW, imm BPF_OR (0x40) (44_atomic.md R206): *(u64 *)(dst + offset) |= src. -/
def execAtomicOr64 (dst : Reg) (src : Reg) (off : BitVec 16) (s : State) : Result :=
  atomicSimple 64 aluOr dst src off s

/-- BPF_STX | BPF_ATOMIC | BPF_DW, imm BPF_OR | BPF_FETCH (0x41) (44_atomic.md R207): the same, and src takes the old value. -/
def execFetchOr64 (dst : Reg) (src : Reg) (off : BitVec 16) (s : State) : Result :=
  atomicFetch 64 aluOr dst src off s

/-- BPF_STX | BPF_ATOMIC | BPF_DW, imm BPF_AND (0x50) (44_atomic.md R208): *(u64 *)(dst + offset) &= src. -/
def execAtomicAnd64 (dst : Reg) (src : Reg) (off : BitVec 16) (s : State) : Result :=
  atomicSimple 64 aluAnd dst src off s

/-- BPF_STX | BPF_ATOMIC | BPF_DW, imm BPF_AND | BPF_FETCH (0x51) (44_atomic.md R209): the same, and src takes the old value. -/
def execFetchAnd64 (dst : Reg) (src : Reg) (off : BitVec 16) (s : State) : Result :=
  atomicFetch 64 aluAnd dst src off s

/-- BPF_STX | BPF_ATOMIC | BPF_DW, imm BPF_XOR (0xa0) (44_atomic.md R210): *(u64 *)(dst + offset) ^= src. -/
def execAtomicXor64 (dst : Reg) (src : Reg) (off : BitVec 16) (s : State) : Result :=
  atomicSimple 64 aluXor dst src off s

/-- BPF_STX | BPF_ATOMIC | BPF_DW, imm BPF_XOR | BPF_FETCH (0xa1) (44_atomic.md R211): the same, and src takes the old value. -/
def execFetchXor64 (dst : Reg) (src : Reg) (off : BitVec 16) (s : State) : Result :=
  atomicFetch 64 aluXor dst src off s

/-- BPF_STX | BPF_ATOMIC | BPF_DW, imm BPF_XCHG (0xe1) (44_atomic.md R213): exchanges src with *(u64 *)(dst + offset). -/
def execXchg64 (dst : Reg) (src : Reg) (off : BitVec 16) (s : State) : Result :=
  atomicFetch 64 atomicTakeSource dst src off s

/-- BPF_STX | BPF_ATOMIC | BPF_DW, imm BPF_CMPXCHG (0xf1) (44_atomic.md R212): compares *(u64 *)(dst + offset) with R0; if they match it becomes src; R0 takes the old value. -/
def execCmpxchg64 (dst : Reg) (src : Reg) (off : BitVec 16) (s : State) : Result :=
  atomicCmpxchg 64 dst src off s

end Sys2Proof.Machine
end

