-- ==== Sys2Proof/Machine/ByteSwap.lean ====
section
/-! DEFINITION. The byte swap instructions (41_byteswap.md R140 to R144). -/

namespace Sys2Proof.Machine

/-- BPF_ALU | BPF_END | BPF_TO_LE, imm 16 (41_byteswap.md R141): dst = htole16(dst). -/
def execToLe16 (dst : Reg) (s : State) : Result :=
  aluUnary 16 (htole s.plat.endian bswap16) dst s

/-- BPF_ALU | BPF_END | BPF_TO_LE, imm 32 (41_byteswap.md R141): dst = htole32(dst). -/
def execToLe32 (dst : Reg) (s : State) : Result :=
  aluUnary 32 (htole s.plat.endian bswap32) dst s

/-- BPF_ALU | BPF_END | BPF_TO_LE, imm 64 (41_byteswap.md R141): dst = htole64(dst). -/
def execToLe64 (dst : Reg) (s : State) : Result :=
  aluUnary 64 (htole s.plat.endian bswap64) dst s

/-- BPF_ALU | BPF_END | BPF_TO_BE, imm 16 (41_byteswap.md R142): dst = htobe16(dst). -/
def execToBe16 (dst : Reg) (s : State) : Result :=
  aluUnary 16 (htobe s.plat.endian bswap16) dst s

/-- BPF_ALU | BPF_END | BPF_TO_BE, imm 32 (41_byteswap.md R142): dst = htobe32(dst). -/
def execToBe32 (dst : Reg) (s : State) : Result :=
  aluUnary 32 (htobe s.plat.endian bswap32) dst s

/-- BPF_ALU | BPF_END | BPF_TO_BE, imm 64 (41_byteswap.md R142): dst = htobe64(dst). -/
def execToBe64 (dst : Reg) (s : State) : Result :=
  aluUnary 64 (htobe s.plat.endian bswap64) dst s

/-- BPF_ALU64 | BPF_END, imm 16 (41_byteswap.md R143): dst = bswap16(dst). -/
def execBswap16 (dst : Reg) (s : State) : Result :=
  aluUnary 16 bswap16 dst s

/-- BPF_ALU64 | BPF_END, imm 32 (41_byteswap.md R143): dst = bswap32(dst). -/
def execBswap32 (dst : Reg) (s : State) : Result :=
  aluUnary 32 bswap32 dst s

/-- BPF_ALU64 | BPF_END, imm 64 (41_byteswap.md R143): dst = bswap64(dst). -/
def execBswap64 (dst : Reg) (s : State) : Result :=
  aluUnary 64 bswap64 dst s

end Sys2Proof.Machine
end

