-- ==== Sys2Proof/Machine/Call.lean ====
section
/-! DEFINITION. Calls and exit (42_jump.md R170 to R174). -/

namespace Sys2Proof.Machine

/-- What the platform's helper is handed: R1 to R5 as they are, and memory (42_jump.md R171). -/
def callOf (key : HelperKey) (s : State) : HelperCall :=
  { key, a1 := s.regs.r1, a2 := s.regs.r2, a3 := s.regs.r3, a4 := s.regs.r4, a5 := s.regs.r5, mem := s.mem }

/-- The platform's answer to a helper call: the next one it has ready in `helperQueue`, else a free value
(42_jump.md R171, "the platform may answer any pair it allows"; notes/assumptions/9.md). -/
def takeAnswer (call : HelperCall) (s : State) : HelperAnswer × State :=
  match s.helperQueue with
  | a :: rest => (a, { s with helperQueue := rest })
  | [] => (Config.helperAnswer call s.draws, { s with draws := s.draws + 1 })

/-- A helper's return: its bytes are written, R0 takes its result, R1 to R5 become unwritten (42_jump.md R171). -/
def finishHelper (a : HelperAnswer) (s : State) : State :=
  ((((s.setMem (writeAll s.mem a.writes)).clobberArgs).setReg .r0 (.word a.r0))).advance 1

/-- A call of a helper function (42_jump.md R171, R173): `known` is the domain of the platform's map. -/
def helperCall (known : List (BitVec 32)) (id : BitVec 32) (key : HelperKey) (s : State) : Result :=
  if known.contains id then
    let p := takeAnswer (callOf key s) s
    .next (finishHelper p.1 p.2)
  else raise (.unknownHelper id)

/-- The frame a program-local call pushes (42_jump.md R172). -/
def frameOf (s : State) : Frame :=
  { ret := s.pc + 1, r6 := s.regs.r6, r7 := s.regs.r7, r8 := s.regs.r8, r9 := s.regs.r9, r10 := s.regs.r10 }

/-- A call of a program-local function with displacement `d` (42_jump.md R172). -/
def localCall (d : Int) (s : State) : Result :=
  if s.cs.length ≥ s.plat.maxCallDepth then raise .callDepthExceeded
  else
    let s1 := (s.setCs (frameOf s :: s.cs)).clobberSaved
    .next ((s1.setReg .r10 (.word (frameTop s1.plat s1.cs.length))).goto (jumpTarget s d))

/-- The return from a program-local function to the frame `f`, `rest` staying on the call stack (42_jump.md R174). -/
def returnTo (f : Frame) (rest : List Frame) (s : State) : State :=
  (((s.setCs rest).restoreSaved f).clobberArgs).goto f.ret

/-- `BPF_EXIT` (42_jump.md R174): at the outermost level the run is over with the value of R0, else the function
returns to its caller. DESIGN CHOICE (notes/assumptions/25.md): the outermost read of R0 is a read like any other, so an
unwritten R0 is `UnwrittenRegister(0)` where the launch has the faulting reading of R23, and an arbitrary value where it
has the drawing one; the spec does not say whether the drawing reading covers this read, which R174, R273 and decision
D24 call a fault. -/
def exitProgram (s : State) : Result :=
  match s.cs with
  | [] => withReg .r0 s fun v s => .next (s.setStatus (.exited v))
  | f :: rest => .next (returnTo f rest s)

/-- BPF_JMP | BPF_CALL, src_reg 0 (helper by address) (42_jump.md R171): call helper function by address. -/
def execCallHelper (imm : BitVec 32) (s : State) : Result :=
  helperCall s.plat.helpersByAddr imm (.byAddr imm) s

/-- BPF_JMP | BPF_CALL, src_reg 1 (program-local) (42_jump.md R172): call PC += imm. -/
def execCallLocal (imm : BitVec 32) (s : State) : Result :=
  localCall imm.toInt s

/-- BPF_JMP | BPF_CALL, src_reg 2 (helper by BTF ID) (42_jump.md R173): call helper function by BTF ID. -/
def execCallBtf (imm : BitVec 32) (s : State) : Result :=
  helperCall s.plat.helpersByBtf imm (.byBtf imm) s

/-- BPF_JMP | BPF_EXIT (42_jump.md R174): return. -/
def execExit (s : State) : Result :=
  exitProgram s

end Sys2Proof.Machine
end

