-- ==== Sys2Proof/Machine/Imm64.lean ====
section
/-! DEFINITION. The 64-bit immediate instructions (45_imm64_legacy.md R220 to R227). -/

namespace Sys2Proof.Machine

/-- The end of a wide instruction: one register is written and `pc` moves past both slots (45_imm64_legacy.md R220). -/
def writeWide (dst : Reg) (v : Word) (s : State) : Result :=
  .next ((s.setReg dst (.word v)).advance 2)

/-- `dst = imm64` (45_imm64_legacy.md R221, 30_encoding.md R67). -/
def loadImm64 (dst : Reg) (imm next : BitVec 32) (s : State) : Result :=
  guardDst dst s <| writeWide dst (imm64 next imm) s

/-- A wide instruction that writes what the platform answers to the lookup `l` (45_imm64_legacy.md R222, R224, R225,
R226). -/
def loadAddr (dst : Reg) (answer : Option Word) (l : Lookup) (s : State) : Result :=
  guardDst dst s <| withLookup answer l fun v => writeWide dst v s

/-- `dst = map_val(map) + next_imm`, the map being what the platform answers to the lookup `l`; `next_imm` with bit 31
set is illegal (45_imm64_legacy.md R223, R227). -/
def loadMapValue (dst : Reg) (answer : Option Word) (l : Lookup) (next : BitVec 32) (s : State) : Result :=
  guardDst dst s <|
    if next.msb then raise (.illegalInstruction s.pc)
    else withLookup answer l fun m => withLookup (s.plat.mapVal.lookup m) (.mapVal m) fun v =>
      writeWide dst (v + next.setWidth 64) s

/-- BPF_LD | BPF_IMM | BPF_DW, src_reg 0: dst = imm64 (45_imm64_legacy.md R221): dst = imm64. -/
def execLdImm64 (dst : Reg) (imm : BitVec 32) (next : BitVec 32) (s : State) : Result :=
  loadImm64 dst imm next s

/-- BPF_LD | BPF_IMM | BPF_DW, src_reg 1: dst = map_by_fd(imm) (45_imm64_legacy.md R222): dst = map_by_fd(imm). -/
def execLdMapFd (dst : Reg) (imm : BitVec 32) (s : State) : Result :=
  loadAddr dst (s.plat.mapByFd.lookup imm) (.mapFd imm) s

/-- BPF_LD | BPF_IMM | BPF_DW, src_reg 2: dst = map_val(map_by_fd(imm)) + next_imm (45_imm64_legacy.md R223): dst = map_val(map_by_fd(imm)) + next_imm. -/
def execLdMapFdVal (dst : Reg) (imm : BitVec 32) (next : BitVec 32) (s : State) : Result :=
  loadMapValue dst (s.plat.mapByFd.lookup imm) (.mapFd imm) next s

/-- BPF_LD | BPF_IMM | BPF_DW, src_reg 3: dst = var_addr(imm) (45_imm64_legacy.md R224): dst = var_addr(imm). -/
def execLdVarAddr (dst : Reg) (imm : BitVec 32) (s : State) : Result :=
  loadAddr dst (s.plat.varAddr.lookup imm) (.varId imm) s

/-- BPF_LD | BPF_IMM | BPF_DW, src_reg 4: dst = code_addr(imm) (45_imm64_legacy.md R225): dst = code_addr(imm). -/
def execLdCodeAddr (dst : Reg) (imm : BitVec 32) (s : State) : Result :=
  loadAddr dst (s.plat.codeAddr.lookup (s.pc, imm.toInt)) (.code imm) s

/-- BPF_LD | BPF_IMM | BPF_DW, src_reg 5: dst = map_by_idx(imm) (45_imm64_legacy.md R226): dst = map_by_idx(imm). -/
def execLdMapIdx (dst : Reg) (imm : BitVec 32) (s : State) : Result :=
  loadAddr dst (s.plat.mapByIdx.lookup imm) (.mapIdx imm) s

/-- BPF_LD | BPF_IMM | BPF_DW, src_reg 6: dst = map_val(map_by_idx(imm)) + next_imm (45_imm64_legacy.md R227): dst = map_val(map_by_idx(imm)) + next_imm. -/
def execLdMapIdxVal (dst : Reg) (imm : BitVec 32) (next : BitVec 32) (s : State) : Result :=
  loadMapValue dst (s.plat.mapByIdx.lookup imm) (.mapIdx imm) next s

end Sys2Proof.Machine
end

