-- ==== Sys2Proof/Machine/Flags.lean ====
section
/-! DEFINITION. The machine has no flags (10_state.md R28): a conditional jump compares two operands itself. These are
the eleven comparisons (42_jump.md R154 to R164), on `w` bits. -/

namespace Sys2Proof.Machine

/-- 42_jump.md R154. -/
def condEq {w : Nat} (a b : BitVec w) : Bool := decide (a = b)

/-- 42_jump.md R155, unsigned. -/
def condGt {w : Nat} (a b : BitVec w) : Bool := decide (b.toNat < a.toNat)

/-- 42_jump.md R156, unsigned. -/
def condGe {w : Nat} (a b : BitVec w) : Bool := decide (b.toNat ≤ a.toNat)

/-- 42_jump.md R157, a bit test. -/
def condSet {w : Nat} (a b : BitVec w) : Bool := decide (a &&& b ≠ 0#w)

/-- 42_jump.md R158. -/
def condNe {w : Nat} (a b : BitVec w) : Bool := decide (a ≠ b)

/-- 42_jump.md R159, signed. -/
def condSgt {w : Nat} (a b : BitVec w) : Bool := decide (b.toInt < a.toInt)

/-- 42_jump.md R160, signed. -/
def condSge {w : Nat} (a b : BitVec w) : Bool := decide (b.toInt ≤ a.toInt)

/-- 42_jump.md R161, unsigned. -/
def condLt {w : Nat} (a b : BitVec w) : Bool := decide (a.toNat < b.toNat)

/-- 42_jump.md R162, unsigned. -/
def condLe {w : Nat} (a b : BitVec w) : Bool := decide (a.toNat ≤ b.toNat)

/-- 42_jump.md R163, signed. -/
def condSlt {w : Nat} (a b : BitVec w) : Bool := decide (a.toInt < b.toInt)

/-- 42_jump.md R164, signed. -/
def condSle {w : Nat} (a b : BitVec w) : Bool := decide (a.toInt ≤ b.toInt)

end Sys2Proof.Machine
end

