-- ==== Sys2Proof/Machine/Jump.lean ====
section
/-! DEFINITION. The jumps (42_jump.md R150 to R164). -/

namespace Sys2Proof.Machine

/-- An unconditional jump (42_jump.md R152, R153). -/
def jumpAlways (d : Int) (s : State) : Result :=
  .next (s.goto (jumpTarget s d))

/-- The end of a conditional jump (42_jump.md section 3): `pc + 1 + offset` if taken, `pc + 1` if not. -/
def branch (taken : Bool) (off : BitVec 16) (s : State) : Result :=
  if taken then .next (s.goto (jumpTarget s off.toInt)) else .next (s.advance 1)

/-- A conditional jump of width `w` with `BPF_K` (42_jump.md R150). -/
def jumpK (w : Nat) (cond : BitVec w → BitVec w → Bool) (dst : Reg) (off : BitVec 16) (imm : BitVec 32) (s : State) :
    Result :=
  withReg dst s fun a s => branch (cond (a.setWidth w) (immOperand w imm)) off s

/-- A conditional jump of width `w` with `BPF_X` (42_jump.md R150). -/
def jumpX (w : Nat) (cond : BitVec w → BitVec w → Bool) (dst src : Reg) (off : BitVec 16) (s : State) : Result :=
  withReg dst s fun a s => withReg src s fun b s => branch (cond (a.setWidth w) (b.setWidth w)) off s

/-- BPF_JMP | BPF_JA (42_jump.md R152): PC += offset. -/
def execJa (off : BitVec 16) (s : State) : Result :=
  jumpAlways off.toInt s

/-- BPF_JMP32 | BPF_JA (42_jump.md R153): PC += imm (gotol). -/
def execJa32 (imm : BitVec 32) (s : State) : Result :=
  jumpAlways imm.toInt s

/-- BPF_JMP | BPF_JEQ | BPF_K (42_jump.md R154): PC += offset if dst == src. -/
def execJeq64K (dst : Reg) (off : BitVec 16) (imm : BitVec 32) (s : State) : Result :=
  jumpK 64 condEq dst off imm s

/-- BPF_JMP | BPF_JEQ | BPF_X (42_jump.md R154): PC += offset if dst == src. -/
def execJeq64X (dst : Reg) (src : Reg) (off : BitVec 16) (s : State) : Result :=
  jumpX 64 condEq dst src off s

/-- BPF_JMP | BPF_JGT | BPF_K (42_jump.md R155): PC += offset if dst > src, unsigned. -/
def execJgt64K (dst : Reg) (off : BitVec 16) (imm : BitVec 32) (s : State) : Result :=
  jumpK 64 condGt dst off imm s

/-- BPF_JMP | BPF_JGT | BPF_X (42_jump.md R155): PC += offset if dst > src, unsigned. -/
def execJgt64X (dst : Reg) (src : Reg) (off : BitVec 16) (s : State) : Result :=
  jumpX 64 condGt dst src off s

/-- BPF_JMP | BPF_JGE | BPF_K (42_jump.md R156): PC += offset if dst >= src, unsigned. -/
def execJge64K (dst : Reg) (off : BitVec 16) (imm : BitVec 32) (s : State) : Result :=
  jumpK 64 condGe dst off imm s

/-- BPF_JMP | BPF_JGE | BPF_X (42_jump.md R156): PC += offset if dst >= src, unsigned. -/
def execJge64X (dst : Reg) (src : Reg) (off : BitVec 16) (s : State) : Result :=
  jumpX 64 condGe dst src off s

/-- BPF_JMP | BPF_JSET | BPF_K (42_jump.md R157): PC += offset if dst & src. -/
def execJset64K (dst : Reg) (off : BitVec 16) (imm : BitVec 32) (s : State) : Result :=
  jumpK 64 condSet dst off imm s

/-- BPF_JMP | BPF_JSET | BPF_X (42_jump.md R157): PC += offset if dst & src. -/
def execJset64X (dst : Reg) (src : Reg) (off : BitVec 16) (s : State) : Result :=
  jumpX 64 condSet dst src off s

/-- BPF_JMP | BPF_JNE | BPF_K (42_jump.md R158): PC += offset if dst != src. -/
def execJne64K (dst : Reg) (off : BitVec 16) (imm : BitVec 32) (s : State) : Result :=
  jumpK 64 condNe dst off imm s

/-- BPF_JMP | BPF_JNE | BPF_X (42_jump.md R158): PC += offset if dst != src. -/
def execJne64X (dst : Reg) (src : Reg) (off : BitVec 16) (s : State) : Result :=
  jumpX 64 condNe dst src off s

/-- BPF_JMP | BPF_JSGT | BPF_K (42_jump.md R159): PC += offset if dst > src, signed. -/
def execJsgt64K (dst : Reg) (off : BitVec 16) (imm : BitVec 32) (s : State) : Result :=
  jumpK 64 condSgt dst off imm s

/-- BPF_JMP | BPF_JSGT | BPF_X (42_jump.md R159): PC += offset if dst > src, signed. -/
def execJsgt64X (dst : Reg) (src : Reg) (off : BitVec 16) (s : State) : Result :=
  jumpX 64 condSgt dst src off s

/-- BPF_JMP | BPF_JSGE | BPF_K (42_jump.md R160): PC += offset if dst >= src, signed. -/
def execJsge64K (dst : Reg) (off : BitVec 16) (imm : BitVec 32) (s : State) : Result :=
  jumpK 64 condSge dst off imm s

/-- BPF_JMP | BPF_JSGE | BPF_X (42_jump.md R160): PC += offset if dst >= src, signed. -/
def execJsge64X (dst : Reg) (src : Reg) (off : BitVec 16) (s : State) : Result :=
  jumpX 64 condSge dst src off s

/-- BPF_JMP | BPF_JLT | BPF_K (42_jump.md R161): PC += offset if dst < src, unsigned. -/
def execJlt64K (dst : Reg) (off : BitVec 16) (imm : BitVec 32) (s : State) : Result :=
  jumpK 64 condLt dst off imm s

/-- BPF_JMP | BPF_JLT | BPF_X (42_jump.md R161): PC += offset if dst < src, unsigned. -/
def execJlt64X (dst : Reg) (src : Reg) (off : BitVec 16) (s : State) : Result :=
  jumpX 64 condLt dst src off s

/-- BPF_JMP | BPF_JLE | BPF_K (42_jump.md R162): PC += offset if dst <= src, unsigned. -/
def execJle64K (dst : Reg) (off : BitVec 16) (imm : BitVec 32) (s : State) : Result :=
  jumpK 64 condLe dst off imm s

/-- BPF_JMP | BPF_JLE | BPF_X (42_jump.md R162): PC += offset if dst <= src, unsigned. -/
def execJle64X (dst : Reg) (src : Reg) (off : BitVec 16) (s : State) : Result :=
  jumpX 64 condLe dst src off s

/-- BPF_JMP | BPF_JSLT | BPF_K (42_jump.md R163): PC += offset if dst < src, signed. -/
def execJslt64K (dst : Reg) (off : BitVec 16) (imm : BitVec 32) (s : State) : Result :=
  jumpK 64 condSlt dst off imm s

/-- BPF_JMP | BPF_JSLT | BPF_X (42_jump.md R163): PC += offset if dst < src, signed. -/
def execJslt64X (dst : Reg) (src : Reg) (off : BitVec 16) (s : State) : Result :=
  jumpX 64 condSlt dst src off s

/-- BPF_JMP | BPF_JSLE | BPF_K (42_jump.md R164): PC += offset if dst <= src, signed. -/
def execJsle64K (dst : Reg) (off : BitVec 16) (imm : BitVec 32) (s : State) : Result :=
  jumpK 64 condSle dst off imm s

/-- BPF_JMP | BPF_JSLE | BPF_X (42_jump.md R164): PC += offset if dst <= src, signed. -/
def execJsle64X (dst : Reg) (src : Reg) (off : BitVec 16) (s : State) : Result :=
  jumpX 64 condSle dst src off s

/-- BPF_JMP32 | BPF_JEQ | BPF_K (42_jump.md R154): PC += offset if dst == src. -/
def execJeq32K (dst : Reg) (off : BitVec 16) (imm : BitVec 32) (s : State) : Result :=
  jumpK 32 condEq dst off imm s

/-- BPF_JMP32 | BPF_JEQ | BPF_X (42_jump.md R154): PC += offset if dst == src. -/
def execJeq32X (dst : Reg) (src : Reg) (off : BitVec 16) (s : State) : Result :=
  jumpX 32 condEq dst src off s

/-- BPF_JMP32 | BPF_JGT | BPF_K (42_jump.md R155): PC += offset if dst > src, unsigned. -/
def execJgt32K (dst : Reg) (off : BitVec 16) (imm : BitVec 32) (s : State) : Result :=
  jumpK 32 condGt dst off imm s

/-- BPF_JMP32 | BPF_JGT | BPF_X (42_jump.md R155): PC += offset if dst > src, unsigned. -/
def execJgt32X (dst : Reg) (src : Reg) (off : BitVec 16) (s : State) : Result :=
  jumpX 32 condGt dst src off s

/-- BPF_JMP32 | BPF_JGE | BPF_K (42_jump.md R156): PC += offset if dst >= src, unsigned. -/
def execJge32K (dst : Reg) (off : BitVec 16) (imm : BitVec 32) (s : State) : Result :=
  jumpK 32 condGe dst off imm s

/-- BPF_JMP32 | BPF_JGE | BPF_X (42_jump.md R156): PC += offset if dst >= src, unsigned. -/
def execJge32X (dst : Reg) (src : Reg) (off : BitVec 16) (s : State) : Result :=
  jumpX 32 condGe dst src off s

/-- BPF_JMP32 | BPF_JSET | BPF_K (42_jump.md R157): PC += offset if dst & src. -/
def execJset32K (dst : Reg) (off : BitVec 16) (imm : BitVec 32) (s : State) : Result :=
  jumpK 32 condSet dst off imm s

/-- BPF_JMP32 | BPF_JSET | BPF_X (42_jump.md R157): PC += offset if dst & src. -/
def execJset32X (dst : Reg) (src : Reg) (off : BitVec 16) (s : State) : Result :=
  jumpX 32 condSet dst src off s

/-- BPF_JMP32 | BPF_JNE | BPF_K (42_jump.md R158): PC += offset if dst != src. -/
def execJne32K (dst : Reg) (off : BitVec 16) (imm : BitVec 32) (s : State) : Result :=
  jumpK 32 condNe dst off imm s

/-- BPF_JMP32 | BPF_JNE | BPF_X (42_jump.md R158): PC += offset if dst != src. -/
def execJne32X (dst : Reg) (src : Reg) (off : BitVec 16) (s : State) : Result :=
  jumpX 32 condNe dst src off s

/-- BPF_JMP32 | BPF_JSGT | BPF_K (42_jump.md R159): PC += offset if dst > src, signed. -/
def execJsgt32K (dst : Reg) (off : BitVec 16) (imm : BitVec 32) (s : State) : Result :=
  jumpK 32 condSgt dst off imm s

/-- BPF_JMP32 | BPF_JSGT | BPF_X (42_jump.md R159): PC += offset if dst > src, signed. -/
def execJsgt32X (dst : Reg) (src : Reg) (off : BitVec 16) (s : State) : Result :=
  jumpX 32 condSgt dst src off s

/-- BPF_JMP32 | BPF_JSGE | BPF_K (42_jump.md R160): PC += offset if dst >= src, signed. -/
def execJsge32K (dst : Reg) (off : BitVec 16) (imm : BitVec 32) (s : State) : Result :=
  jumpK 32 condSge dst off imm s

/-- BPF_JMP32 | BPF_JSGE | BPF_X (42_jump.md R160): PC += offset if dst >= src, signed. -/
def execJsge32X (dst : Reg) (src : Reg) (off : BitVec 16) (s : State) : Result :=
  jumpX 32 condSge dst src off s

/-- BPF_JMP32 | BPF_JLT | BPF_K (42_jump.md R161): PC += offset if dst < src, unsigned. -/
def execJlt32K (dst : Reg) (off : BitVec 16) (imm : BitVec 32) (s : State) : Result :=
  jumpK 32 condLt dst off imm s

/-- BPF_JMP32 | BPF_JLT | BPF_X (42_jump.md R161): PC += offset if dst < src, unsigned. -/
def execJlt32X (dst : Reg) (src : Reg) (off : BitVec 16) (s : State) : Result :=
  jumpX 32 condLt dst src off s

/-- BPF_JMP32 | BPF_JLE | BPF_K (42_jump.md R162): PC += offset if dst <= src, unsigned. -/
def execJle32K (dst : Reg) (off : BitVec 16) (imm : BitVec 32) (s : State) : Result :=
  jumpK 32 condLe dst off imm s

/-- BPF_JMP32 | BPF_JLE | BPF_X (42_jump.md R162): PC += offset if dst <= src, unsigned. -/
def execJle32X (dst : Reg) (src : Reg) (off : BitVec 16) (s : State) : Result :=
  jumpX 32 condLe dst src off s

/-- BPF_JMP32 | BPF_JSLT | BPF_K (42_jump.md R163): PC += offset if dst < src, signed. -/
def execJslt32K (dst : Reg) (off : BitVec 16) (imm : BitVec 32) (s : State) : Result :=
  jumpK 32 condSlt dst off imm s

/-- BPF_JMP32 | BPF_JSLT | BPF_X (42_jump.md R163): PC += offset if dst < src, signed. -/
def execJslt32X (dst : Reg) (src : Reg) (off : BitVec 16) (s : State) : Result :=
  jumpX 32 condSlt dst src off s

/-- BPF_JMP32 | BPF_JSLE | BPF_K (42_jump.md R164): PC += offset if dst <= src, signed. -/
def execJsle32K (dst : Reg) (off : BitVec 16) (imm : BitVec 32) (s : State) : Result :=
  jumpK 32 condSle dst off imm s

/-- BPF_JMP32 | BPF_JSLE | BPF_X (42_jump.md R164): PC += offset if dst <= src, signed. -/
def execJsle32X (dst : Reg) (src : Reg) (off : BitVec 16) (s : State) : Result :=
  jumpX 32 condSle dst src off s

end Sys2Proof.Machine
end

