-- ==== Sys2Proof/Machine/Legacy.lean ====
section
/-! DEFINITION. The legacy packet access instructions (45_imm64_legacy.md R231): the spec gives them no operation and
refuses them with the fault LegacyInstruction. -/

namespace Sys2Proof.Machine

/-- 45_imm64_legacy.md R231: the eight legacy opcodes raise `LegacyInstruction(opcode)` and change no state. -/
def legacyAccess (opcode : BitVec 8) : Result := raise (.legacyInstruction opcode)

/-- BPF_LD | BPF_ABS | BPF_W (legacy, refused) (45_imm64_legacy.md R231): legacy packet access, named and not specified. -/
def execLdAbsW (_dst : BitVec 4) (_src : BitVec 4) (_off : BitVec 16) (_imm : BitVec 32) (_s : State) : Result :=
  legacyAccess 0x20#8

/-- BPF_LD | BPF_ABS | BPF_H (legacy, refused) (45_imm64_legacy.md R231): legacy packet access, named and not specified. -/
def execLdAbsH (_dst : BitVec 4) (_src : BitVec 4) (_off : BitVec 16) (_imm : BitVec 32) (_s : State) : Result :=
  legacyAccess 0x28#8

/-- BPF_LD | BPF_ABS | BPF_B (legacy, refused) (45_imm64_legacy.md R231): legacy packet access, named and not specified. -/
def execLdAbsB (_dst : BitVec 4) (_src : BitVec 4) (_off : BitVec 16) (_imm : BitVec 32) (_s : State) : Result :=
  legacyAccess 0x30#8

/-- BPF_LD | BPF_ABS | BPF_DW (legacy, refused) (45_imm64_legacy.md R231): legacy packet access, named and not specified. -/
def execLdAbsDW (_dst : BitVec 4) (_src : BitVec 4) (_off : BitVec 16) (_imm : BitVec 32) (_s : State) : Result :=
  legacyAccess 0x38#8

/-- BPF_LD | BPF_IND | BPF_W (legacy, refused) (45_imm64_legacy.md R231): legacy packet access, named and not specified. -/
def execLdIndW (_dst : BitVec 4) (_src : BitVec 4) (_off : BitVec 16) (_imm : BitVec 32) (_s : State) : Result :=
  legacyAccess 0x40#8

/-- BPF_LD | BPF_IND | BPF_H (legacy, refused) (45_imm64_legacy.md R231): legacy packet access, named and not specified. -/
def execLdIndH (_dst : BitVec 4) (_src : BitVec 4) (_off : BitVec 16) (_imm : BitVec 32) (_s : State) : Result :=
  legacyAccess 0x48#8

/-- BPF_LD | BPF_IND | BPF_B (legacy, refused) (45_imm64_legacy.md R231): legacy packet access, named and not specified. -/
def execLdIndB (_dst : BitVec 4) (_src : BitVec 4) (_off : BitVec 16) (_imm : BitVec 32) (_s : State) : Result :=
  legacyAccess 0x50#8

/-- BPF_LD | BPF_IND | BPF_DW (legacy, refused) (45_imm64_legacy.md R231): legacy packet access, named and not specified. -/
def execLdIndDW (_dst : BitVec 4) (_src : BitVec 4) (_off : BitVec 16) (_imm : BitVec 32) (_s : State) : Result :=
  legacyAccess 0x58#8

end Sys2Proof.Machine
end

