-- ==== Sys2Proof/Machine/LoadStore.lean ====
section
/-! DEFINITION. Regular and sign-extension loads and stores (43_load_store.md R180 to R196). -/

namespace Sys2Proof.Machine

/-- A load of `w` bits, extended to 64 by `ext`, in the order of the steps of 43_load_store.md R180. -/
def loadX (w : Nat) (ext : BitVec w → Word) (dst src : Reg) (off : BitVec 16) (s : State) : Result :=
  guardDst dst s <| withReg src s fun b s =>
    let ea := effectiveAddress b off
    checkAccess s.plat.strictAlign ea (w / 8) .read s <|
      .next ((s.setReg dst (.word (ext (BitVec.ofNat w (memRead s.plat.endian s.mem ea (w / 8)))))).advance 1)

/-- The store of `v` to `ea`, after its checks (43_load_store.md R180, steps 3 to 6). -/
def storeAt (w : Nat) (ea : Word) (v : BitVec w) (s : State) : Result :=
  checkAccess s.plat.strictAlign ea (w / 8) .write s <|
    .next ((s.setMem (memWrite s.plat.endian s.mem ea (w / 8) v.toNat)).advance 1)

/-- A store of the low `w` bits of `sext_64(imm)` (43_load_store.md section 4). -/
def storeK (w : Nat) (dst : Reg) (off : BitVec 16) (imm : BitVec 32) (s : State) : Result :=
  withReg dst s fun a s => storeAt w (effectiveAddress a off) ((immOperand 64 imm).setWidth w) s

/-- A store of the low `w` bits of the source register (43_load_store.md section 5). -/
def storeX (w : Nat) (dst src : Reg) (off : BitVec 16) (s : State) : Result :=
  withReg dst s fun a s => withReg src s fun b s => storeAt w (effectiveAddress a off) (b.setWidth w) s

/-- BPF_LDX | BPF_MEM | BPF_W (43_load_store.md R181): dst = *(u32 *) (src + offset). -/
def execLdxW (dst : Reg) (src : Reg) (off : BitVec 16) (s : State) : Result :=
  loadX 32 zext64 dst src off s

/-- BPF_LDX | BPF_MEM | BPF_H (43_load_store.md R182): dst = *(u16 *) (src + offset). -/
def execLdxH (dst : Reg) (src : Reg) (off : BitVec 16) (s : State) : Result :=
  loadX 16 zext64 dst src off s

/-- BPF_LDX | BPF_MEM | BPF_B (43_load_store.md R183): dst = *(u8 *) (src + offset). -/
def execLdxB (dst : Reg) (src : Reg) (off : BitVec 16) (s : State) : Result :=
  loadX 8 zext64 dst src off s

/-- BPF_LDX | BPF_MEM | BPF_DW (43_load_store.md R184): dst = *(u64 *) (src + offset). -/
def execLdxDW (dst : Reg) (src : Reg) (off : BitVec 16) (s : State) : Result :=
  loadX 64 zext64 dst src off s

/-- BPF_LDX | BPF_MEMSX | BPF_W (43_load_store.md R192): dst = *(s32 *) (src + offset). -/
def execLdxsW (dst : Reg) (src : Reg) (off : BitVec 16) (s : State) : Result :=
  loadX 32 sext64 dst src off s

/-- BPF_LDX | BPF_MEMSX | BPF_H (43_load_store.md R193): dst = *(s16 *) (src + offset). -/
def execLdxsH (dst : Reg) (src : Reg) (off : BitVec 16) (s : State) : Result :=
  loadX 16 sext64 dst src off s

/-- BPF_LDX | BPF_MEMSX | BPF_B (43_load_store.md R194): dst = *(s8 *) (src + offset). -/
def execLdxsB (dst : Reg) (src : Reg) (off : BitVec 16) (s : State) : Result :=
  loadX 8 sext64 dst src off s

/-- BPF_ST | BPF_MEM | BPF_W (43_load_store.md R185): *(u32 *) (dst + offset) = imm32. -/
def execStW (dst : Reg) (off : BitVec 16) (imm : BitVec 32) (s : State) : Result :=
  storeK 32 dst off imm s

/-- BPF_ST | BPF_MEM | BPF_H (43_load_store.md R186): *(u16 *) (dst + offset) = imm32. -/
def execStH (dst : Reg) (off : BitVec 16) (imm : BitVec 32) (s : State) : Result :=
  storeK 16 dst off imm s

/-- BPF_ST | BPF_MEM | BPF_B (43_load_store.md R187): *(u8 *) (dst + offset) = imm32. -/
def execStB (dst : Reg) (off : BitVec 16) (imm : BitVec 32) (s : State) : Result :=
  storeK 8 dst off imm s

/-- BPF_ST | BPF_MEM | BPF_DW (43_load_store.md R188): *(u64 *) (dst + offset) = imm32. -/
def execStDW (dst : Reg) (off : BitVec 16) (imm : BitVec 32) (s : State) : Result :=
  storeK 64 dst off imm s

/-- BPF_STX | BPF_MEM | BPF_W (43_load_store.md R189): *(u32 *) (dst + offset) = src. -/
def execStxW (dst : Reg) (src : Reg) (off : BitVec 16) (s : State) : Result :=
  storeX 32 dst src off s

/-- BPF_STX | BPF_MEM | BPF_H (43_load_store.md R190): *(u16 *) (dst + offset) = src. -/
def execStxH (dst : Reg) (src : Reg) (off : BitVec 16) (s : State) : Result :=
  storeX 16 dst src off s

/-- BPF_STX | BPF_MEM | BPF_B (43_load_store.md R191): *(u8 *) (dst + offset) = src. -/
def execStxB (dst : Reg) (src : Reg) (off : BitVec 16) (s : State) : Result :=
  storeX 8 dst src off s

/-- BPF_STX | BPF_MEM | BPF_DW (43_load_store.md R195): *(u64 *) (dst + offset) = src. -/
def execStxDW (dst : Reg) (src : Reg) (off : BitVec 16) (s : State) : Result :=
  storeX 64 dst src off s

end Sys2Proof.Machine
end

