-- ==== Sys2Proof/Machine/Dispatch.lean ====
section
/-! DEFINITION. The meaning of each instruction, one arm for each constructor. -/

namespace Sys2Proof.Machine

def exec (i : Instr) (s : State) : Host.Outcome State Fault Refusal :=
  match i with
  | .add64K dst imm => Sys2Proof.Machine.execAdd64K dst imm s
  | .add64X dst src => Sys2Proof.Machine.execAdd64X dst src s
  | .sub64K dst imm => Sys2Proof.Machine.execSub64K dst imm s
  | .sub64X dst src => Sys2Proof.Machine.execSub64X dst src s
  | .mul64K dst imm => Sys2Proof.Machine.execMul64K dst imm s
  | .mul64X dst src => Sys2Proof.Machine.execMul64X dst src s
  | .div64K dst imm => Sys2Proof.Machine.execDiv64K dst imm s
  | .div64X dst src => Sys2Proof.Machine.execDiv64X dst src s
  | .sdiv64K dst imm => Sys2Proof.Machine.execSdiv64K dst imm s
  | .sdiv64X dst src => Sys2Proof.Machine.execSdiv64X dst src s
  | .or64K dst imm => Sys2Proof.Machine.execOr64K dst imm s
  | .or64X dst src => Sys2Proof.Machine.execOr64X dst src s
  | .and64K dst imm => Sys2Proof.Machine.execAnd64K dst imm s
  | .and64X dst src => Sys2Proof.Machine.execAnd64X dst src s
  | .lsh64K dst imm => Sys2Proof.Machine.execLsh64K dst imm s
  | .lsh64X dst src => Sys2Proof.Machine.execLsh64X dst src s
  | .rsh64K dst imm => Sys2Proof.Machine.execRsh64K dst imm s
  | .rsh64X dst src => Sys2Proof.Machine.execRsh64X dst src s
  | .mod64K dst imm => Sys2Proof.Machine.execMod64K dst imm s
  | .mod64X dst src => Sys2Proof.Machine.execMod64X dst src s
  | .smod64K dst imm => Sys2Proof.Machine.execSmod64K dst imm s
  | .smod64X dst src => Sys2Proof.Machine.execSmod64X dst src s
  | .xor64K dst imm => Sys2Proof.Machine.execXor64K dst imm s
  | .xor64X dst src => Sys2Proof.Machine.execXor64X dst src s
  | .arsh64K dst imm => Sys2Proof.Machine.execArsh64K dst imm s
  | .arsh64X dst src => Sys2Proof.Machine.execArsh64X dst src s
  | .neg64 dst => Sys2Proof.Machine.execNeg64 dst s
  | .mov64K dst imm => Sys2Proof.Machine.execMov64K dst imm s
  | .mov64X dst src => Sys2Proof.Machine.execMov64X dst src s
  | .movsx8to64 dst src => Sys2Proof.Machine.execMovsx8to64 dst src s
  | .movsx16to64 dst src => Sys2Proof.Machine.execMovsx16to64 dst src s
  | .movsx32to64 dst src => Sys2Proof.Machine.execMovsx32to64 dst src s
  | .add32K dst imm => Sys2Proof.Machine.execAdd32K dst imm s
  | .add32X dst src => Sys2Proof.Machine.execAdd32X dst src s
  | .sub32K dst imm => Sys2Proof.Machine.execSub32K dst imm s
  | .sub32X dst src => Sys2Proof.Machine.execSub32X dst src s
  | .mul32K dst imm => Sys2Proof.Machine.execMul32K dst imm s
  | .mul32X dst src => Sys2Proof.Machine.execMul32X dst src s
  | .div32K dst imm => Sys2Proof.Machine.execDiv32K dst imm s
  | .div32X dst src => Sys2Proof.Machine.execDiv32X dst src s
  | .sdiv32K dst imm => Sys2Proof.Machine.execSdiv32K dst imm s
  | .sdiv32X dst src => Sys2Proof.Machine.execSdiv32X dst src s
  | .or32K dst imm => Sys2Proof.Machine.execOr32K dst imm s
  | .or32X dst src => Sys2Proof.Machine.execOr32X dst src s
  | .and32K dst imm => Sys2Proof.Machine.execAnd32K dst imm s
  | .and32X dst src => Sys2Proof.Machine.execAnd32X dst src s
  | .lsh32K dst imm => Sys2Proof.Machine.execLsh32K dst imm s
  | .lsh32X dst src => Sys2Proof.Machine.execLsh32X dst src s
  | .rsh32K dst imm => Sys2Proof.Machine.execRsh32K dst imm s
  | .rsh32X dst src => Sys2Proof.Machine.execRsh32X dst src s
  | .mod32K dst imm => Sys2Proof.Machine.execMod32K dst imm s
  | .mod32X dst src => Sys2Proof.Machine.execMod32X dst src s
  | .smod32K dst imm => Sys2Proof.Machine.execSmod32K dst imm s
  | .smod32X dst src => Sys2Proof.Machine.execSmod32X dst src s
  | .xor32K dst imm => Sys2Proof.Machine.execXor32K dst imm s
  | .xor32X dst src => Sys2Proof.Machine.execXor32X dst src s
  | .arsh32K dst imm => Sys2Proof.Machine.execArsh32K dst imm s
  | .arsh32X dst src => Sys2Proof.Machine.execArsh32X dst src s
  | .neg32 dst => Sys2Proof.Machine.execNeg32 dst s
  | .mov32K dst imm => Sys2Proof.Machine.execMov32K dst imm s
  | .mov32X dst src => Sys2Proof.Machine.execMov32X dst src s
  | .movsx8to32 dst src => Sys2Proof.Machine.execMovsx8to32 dst src s
  | .movsx16to32 dst src => Sys2Proof.Machine.execMovsx16to32 dst src s
  | .toLe16 dst => Sys2Proof.Machine.execToLe16 dst s
  | .toLe32 dst => Sys2Proof.Machine.execToLe32 dst s
  | .toLe64 dst => Sys2Proof.Machine.execToLe64 dst s
  | .toBe16 dst => Sys2Proof.Machine.execToBe16 dst s
  | .toBe32 dst => Sys2Proof.Machine.execToBe32 dst s
  | .toBe64 dst => Sys2Proof.Machine.execToBe64 dst s
  | .bswap16 dst => Sys2Proof.Machine.execBswap16 dst s
  | .bswap32 dst => Sys2Proof.Machine.execBswap32 dst s
  | .bswap64 dst => Sys2Proof.Machine.execBswap64 dst s
  | .ja off => Sys2Proof.Machine.execJa off s
  | .ja32 imm => Sys2Proof.Machine.execJa32 imm s
  | .jeq64K dst off imm => Sys2Proof.Machine.execJeq64K dst off imm s
  | .jeq64X dst src off => Sys2Proof.Machine.execJeq64X dst src off s
  | .jgt64K dst off imm => Sys2Proof.Machine.execJgt64K dst off imm s
  | .jgt64X dst src off => Sys2Proof.Machine.execJgt64X dst src off s
  | .jge64K dst off imm => Sys2Proof.Machine.execJge64K dst off imm s
  | .jge64X dst src off => Sys2Proof.Machine.execJge64X dst src off s
  | .jset64K dst off imm => Sys2Proof.Machine.execJset64K dst off imm s
  | .jset64X dst src off => Sys2Proof.Machine.execJset64X dst src off s
  | .jne64K dst off imm => Sys2Proof.Machine.execJne64K dst off imm s
  | .jne64X dst src off => Sys2Proof.Machine.execJne64X dst src off s
  | .jsgt64K dst off imm => Sys2Proof.Machine.execJsgt64K dst off imm s
  | .jsgt64X dst src off => Sys2Proof.Machine.execJsgt64X dst src off s
  | .jsge64K dst off imm => Sys2Proof.Machine.execJsge64K dst off imm s
  | .jsge64X dst src off => Sys2Proof.Machine.execJsge64X dst src off s
  | .jlt64K dst off imm => Sys2Proof.Machine.execJlt64K dst off imm s
  | .jlt64X dst src off => Sys2Proof.Machine.execJlt64X dst src off s
  | .jle64K dst off imm => Sys2Proof.Machine.execJle64K dst off imm s
  | .jle64X dst src off => Sys2Proof.Machine.execJle64X dst src off s
  | .jslt64K dst off imm => Sys2Proof.Machine.execJslt64K dst off imm s
  | .jslt64X dst src off => Sys2Proof.Machine.execJslt64X dst src off s
  | .jsle64K dst off imm => Sys2Proof.Machine.execJsle64K dst off imm s
  | .jsle64X dst src off => Sys2Proof.Machine.execJsle64X dst src off s
  | .jeq32K dst off imm => Sys2Proof.Machine.execJeq32K dst off imm s
  | .jeq32X dst src off => Sys2Proof.Machine.execJeq32X dst src off s
  | .jgt32K dst off imm => Sys2Proof.Machine.execJgt32K dst off imm s
  | .jgt32X dst src off => Sys2Proof.Machine.execJgt32X dst src off s
  | .jge32K dst off imm => Sys2Proof.Machine.execJge32K dst off imm s
  | .jge32X dst src off => Sys2Proof.Machine.execJge32X dst src off s
  | .jset32K dst off imm => Sys2Proof.Machine.execJset32K dst off imm s
  | .jset32X dst src off => Sys2Proof.Machine.execJset32X dst src off s
  | .jne32K dst off imm => Sys2Proof.Machine.execJne32K dst off imm s
  | .jne32X dst src off => Sys2Proof.Machine.execJne32X dst src off s
  | .jsgt32K dst off imm => Sys2Proof.Machine.execJsgt32K dst off imm s
  | .jsgt32X dst src off => Sys2Proof.Machine.execJsgt32X dst src off s
  | .jsge32K dst off imm => Sys2Proof.Machine.execJsge32K dst off imm s
  | .jsge32X dst src off => Sys2Proof.Machine.execJsge32X dst src off s
  | .jlt32K dst off imm => Sys2Proof.Machine.execJlt32K dst off imm s
  | .jlt32X dst src off => Sys2Proof.Machine.execJlt32X dst src off s
  | .jle32K dst off imm => Sys2Proof.Machine.execJle32K dst off imm s
  | .jle32X dst src off => Sys2Proof.Machine.execJle32X dst src off s
  | .jslt32K dst off imm => Sys2Proof.Machine.execJslt32K dst off imm s
  | .jslt32X dst src off => Sys2Proof.Machine.execJslt32X dst src off s
  | .jsle32K dst off imm => Sys2Proof.Machine.execJsle32K dst off imm s
  | .jsle32X dst src off => Sys2Proof.Machine.execJsle32X dst src off s
  | .callHelper imm => Sys2Proof.Machine.execCallHelper imm s
  | .callLocal imm => Sys2Proof.Machine.execCallLocal imm s
  | .callBtf imm => Sys2Proof.Machine.execCallBtf imm s
  | .exit => Sys2Proof.Machine.execExit s
  | .ldxW dst src off => Sys2Proof.Machine.execLdxW dst src off s
  | .ldxH dst src off => Sys2Proof.Machine.execLdxH dst src off s
  | .ldxB dst src off => Sys2Proof.Machine.execLdxB dst src off s
  | .ldxDW dst src off => Sys2Proof.Machine.execLdxDW dst src off s
  | .ldxsW dst src off => Sys2Proof.Machine.execLdxsW dst src off s
  | .ldxsH dst src off => Sys2Proof.Machine.execLdxsH dst src off s
  | .ldxsB dst src off => Sys2Proof.Machine.execLdxsB dst src off s
  | .stW dst off imm => Sys2Proof.Machine.execStW dst off imm s
  | .stH dst off imm => Sys2Proof.Machine.execStH dst off imm s
  | .stB dst off imm => Sys2Proof.Machine.execStB dst off imm s
  | .stDW dst off imm => Sys2Proof.Machine.execStDW dst off imm s
  | .stxW dst src off => Sys2Proof.Machine.execStxW dst src off s
  | .stxH dst src off => Sys2Proof.Machine.execStxH dst src off s
  | .stxB dst src off => Sys2Proof.Machine.execStxB dst src off s
  | .stxDW dst src off => Sys2Proof.Machine.execStxDW dst src off s
  | .atomicAdd32 dst src off => Sys2Proof.Machine.execAtomicAdd32 dst src off s
  | .fetchAdd32 dst src off => Sys2Proof.Machine.execFetchAdd32 dst src off s
  | .atomicOr32 dst src off => Sys2Proof.Machine.execAtomicOr32 dst src off s
  | .fetchOr32 dst src off => Sys2Proof.Machine.execFetchOr32 dst src off s
  | .atomicAnd32 dst src off => Sys2Proof.Machine.execAtomicAnd32 dst src off s
  | .fetchAnd32 dst src off => Sys2Proof.Machine.execFetchAnd32 dst src off s
  | .atomicXor32 dst src off => Sys2Proof.Machine.execAtomicXor32 dst src off s
  | .fetchXor32 dst src off => Sys2Proof.Machine.execFetchXor32 dst src off s
  | .xchg32 dst src off => Sys2Proof.Machine.execXchg32 dst src off s
  | .cmpxchg32 dst src off => Sys2Proof.Machine.execCmpxchg32 dst src off s
  | .atomicAdd64 dst src off => Sys2Proof.Machine.execAtomicAdd64 dst src off s
  | .fetchAdd64 dst src off => Sys2Proof.Machine.execFetchAdd64 dst src off s
  | .atomicOr64 dst src off => Sys2Proof.Machine.execAtomicOr64 dst src off s
  | .fetchOr64 dst src off => Sys2Proof.Machine.execFetchOr64 dst src off s
  | .atomicAnd64 dst src off => Sys2Proof.Machine.execAtomicAnd64 dst src off s
  | .fetchAnd64 dst src off => Sys2Proof.Machine.execFetchAnd64 dst src off s
  | .atomicXor64 dst src off => Sys2Proof.Machine.execAtomicXor64 dst src off s
  | .fetchXor64 dst src off => Sys2Proof.Machine.execFetchXor64 dst src off s
  | .xchg64 dst src off => Sys2Proof.Machine.execXchg64 dst src off s
  | .cmpxchg64 dst src off => Sys2Proof.Machine.execCmpxchg64 dst src off s
  | .ldImm64 dst imm next => Sys2Proof.Machine.execLdImm64 dst imm next s
  | .ldMapFd dst imm => Sys2Proof.Machine.execLdMapFd dst imm s
  | .ldMapFdVal dst imm next => Sys2Proof.Machine.execLdMapFdVal dst imm next s
  | .ldVarAddr dst imm => Sys2Proof.Machine.execLdVarAddr dst imm s
  | .ldCodeAddr dst imm => Sys2Proof.Machine.execLdCodeAddr dst imm s
  | .ldMapIdx dst imm => Sys2Proof.Machine.execLdMapIdx dst imm s
  | .ldMapIdxVal dst imm next => Sys2Proof.Machine.execLdMapIdxVal dst imm next s
  | .ldAbsW dst src off imm => Sys2Proof.Machine.execLdAbsW dst src off imm s
  | .ldAbsH dst src off imm => Sys2Proof.Machine.execLdAbsH dst src off imm s
  | .ldAbsB dst src off imm => Sys2Proof.Machine.execLdAbsB dst src off imm s
  | .ldAbsDW dst src off imm => Sys2Proof.Machine.execLdAbsDW dst src off imm s
  | .ldIndW dst src off imm => Sys2Proof.Machine.execLdIndW dst src off imm s
  | .ldIndH dst src off imm => Sys2Proof.Machine.execLdIndH dst src off imm s
  | .ldIndB dst src off imm => Sys2Proof.Machine.execLdIndB dst src off imm s
  | .ldIndDW dst src off imm => Sys2Proof.Machine.execLdIndDW dst src off imm s

end Sys2Proof.Machine
end

