-- ==== Sys2Proof/WellFormed.lean ====
section
/-! DEFINITION. Which terms of `Instr` are instructions of the machine: those that some encoding stands for. -/

namespace Sys2Proof

/-- The checks of 30_encoding.md R88 step (4) and (5) that the types of the operands do not already make: an instruction
that writes its destination does not name R10 (10_state.md R24), a fetching atomic does not name R10 as its source
register (44_atomic.md R202), and bit 31 of `next_imm` is 0 in the two map-value instructions (45_imm64_legacy.md
R223, R227). -/
def Instr.wellFormed : Instr → Bool
  | .add64K dst _ => dst != .r10
  | .add64X dst _ => dst != .r10
  | .sub64K dst _ => dst != .r10
  | .sub64X dst _ => dst != .r10
  | .mul64K dst _ => dst != .r10
  | .mul64X dst _ => dst != .r10
  | .div64K dst _ => dst != .r10
  | .div64X dst _ => dst != .r10
  | .sdiv64K dst _ => dst != .r10
  | .sdiv64X dst _ => dst != .r10
  | .or64K dst _ => dst != .r10
  | .or64X dst _ => dst != .r10
  | .and64K dst _ => dst != .r10
  | .and64X dst _ => dst != .r10
  | .lsh64K dst _ => dst != .r10
  | .lsh64X dst _ => dst != .r10
  | .rsh64K dst _ => dst != .r10
  | .rsh64X dst _ => dst != .r10
  | .mod64K dst _ => dst != .r10
  | .mod64X dst _ => dst != .r10
  | .smod64K dst _ => dst != .r10
  | .smod64X dst _ => dst != .r10
  | .xor64K dst _ => dst != .r10
  | .xor64X dst _ => dst != .r10
  | .arsh64K dst _ => dst != .r10
  | .arsh64X dst _ => dst != .r10
  | .neg64 dst => dst != .r10
  | .mov64K dst _ => dst != .r10
  | .mov64X dst _ => dst != .r10
  | .movsx8to64 dst _ => dst != .r10
  | .movsx16to64 dst _ => dst != .r10
  | .movsx32to64 dst _ => dst != .r10
  | .add32K dst _ => dst != .r10
  | .add32X dst _ => dst != .r10
  | .sub32K dst _ => dst != .r10
  | .sub32X dst _ => dst != .r10
  | .mul32K dst _ => dst != .r10
  | .mul32X dst _ => dst != .r10
  | .div32K dst _ => dst != .r10
  | .div32X dst _ => dst != .r10
  | .sdiv32K dst _ => dst != .r10
  | .sdiv32X dst _ => dst != .r10
  | .or32K dst _ => dst != .r10
  | .or32X dst _ => dst != .r10
  | .and32K dst _ => dst != .r10
  | .and32X dst _ => dst != .r10
  | .lsh32K dst _ => dst != .r10
  | .lsh32X dst _ => dst != .r10
  | .rsh32K dst _ => dst != .r10
  | .rsh32X dst _ => dst != .r10
  | .mod32K dst _ => dst != .r10
  | .mod32X dst _ => dst != .r10
  | .smod32K dst _ => dst != .r10
  | .smod32X dst _ => dst != .r10
  | .xor32K dst _ => dst != .r10
  | .xor32X dst _ => dst != .r10
  | .arsh32K dst _ => dst != .r10
  | .arsh32X dst _ => dst != .r10
  | .neg32 dst => dst != .r10
  | .mov32K dst _ => dst != .r10
  | .mov32X dst _ => dst != .r10
  | .movsx8to32 dst _ => dst != .r10
  | .movsx16to32 dst _ => dst != .r10
  | .toLe16 dst => dst != .r10
  | .toLe32 dst => dst != .r10
  | .toLe64 dst => dst != .r10
  | .toBe16 dst => dst != .r10
  | .toBe32 dst => dst != .r10
  | .toBe64 dst => dst != .r10
  | .bswap16 dst => dst != .r10
  | .bswap32 dst => dst != .r10
  | .bswap64 dst => dst != .r10
  | .ja _ => true
  | .ja32 _ => true
  | .jeq64K _ _ _ => true
  | .jeq64X _ _ _ => true
  | .jgt64K _ _ _ => true
  | .jgt64X _ _ _ => true
  | .jge64K _ _ _ => true
  | .jge64X _ _ _ => true
  | .jset64K _ _ _ => true
  | .jset64X _ _ _ => true
  | .jne64K _ _ _ => true
  | .jne64X _ _ _ => true
  | .jsgt64K _ _ _ => true
  | .jsgt64X _ _ _ => true
  | .jsge64K _ _ _ => true
  | .jsge64X _ _ _ => true
  | .jlt64K _ _ _ => true
  | .jlt64X _ _ _ => true
  | .jle64K _ _ _ => true
  | .jle64X _ _ _ => true
  | .jslt64K _ _ _ => true
  | .jslt64X _ _ _ => true
  | .jsle64K _ _ _ => true
  | .jsle64X _ _ _ => true
  | .jeq32K _ _ _ => true
  | .jeq32X _ _ _ => true
  | .jgt32K _ _ _ => true
  | .jgt32X _ _ _ => true
  | .jge32K _ _ _ => true
  | .jge32X _ _ _ => true
  | .jset32K _ _ _ => true
  | .jset32X _ _ _ => true
  | .jne32K _ _ _ => true
  | .jne32X _ _ _ => true
  | .jsgt32K _ _ _ => true
  | .jsgt32X _ _ _ => true
  | .jsge32K _ _ _ => true
  | .jsge32X _ _ _ => true
  | .jlt32K _ _ _ => true
  | .jlt32X _ _ _ => true
  | .jle32K _ _ _ => true
  | .jle32X _ _ _ => true
  | .jslt32K _ _ _ => true
  | .jslt32X _ _ _ => true
  | .jsle32K _ _ _ => true
  | .jsle32X _ _ _ => true
  | .callHelper _ => true
  | .callLocal _ => true
  | .callBtf _ => true
  | .exit => true
  | .ldxW dst _ _ => dst != .r10
  | .ldxH dst _ _ => dst != .r10
  | .ldxB dst _ _ => dst != .r10
  | .ldxDW dst _ _ => dst != .r10
  | .ldxsW dst _ _ => dst != .r10
  | .ldxsH dst _ _ => dst != .r10
  | .ldxsB dst _ _ => dst != .r10
  | .stW _ _ _ => true
  | .stH _ _ _ => true
  | .stB _ _ _ => true
  | .stDW _ _ _ => true
  | .stxW _ _ _ => true
  | .stxH _ _ _ => true
  | .stxB _ _ _ => true
  | .stxDW _ _ _ => true
  | .atomicAdd32 _ _ _ => true
  | .fetchAdd32 _ src _ => src != .r10
  | .atomicOr32 _ _ _ => true
  | .fetchOr32 _ src _ => src != .r10
  | .atomicAnd32 _ _ _ => true
  | .fetchAnd32 _ src _ => src != .r10
  | .atomicXor32 _ _ _ => true
  | .fetchXor32 _ src _ => src != .r10
  | .xchg32 _ src _ => src != .r10
  | .cmpxchg32 _ _ _ => true
  | .atomicAdd64 _ _ _ => true
  | .fetchAdd64 _ src _ => src != .r10
  | .atomicOr64 _ _ _ => true
  | .fetchOr64 _ src _ => src != .r10
  | .atomicAnd64 _ _ _ => true
  | .fetchAnd64 _ src _ => src != .r10
  | .atomicXor64 _ _ _ => true
  | .fetchXor64 _ src _ => src != .r10
  | .xchg64 _ src _ => src != .r10
  | .cmpxchg64 _ _ _ => true
  | .ldImm64 dst _ _ => dst != .r10
  | .ldMapFd dst _ => dst != .r10
  | .ldMapFdVal dst _ next => dst != .r10 && !next.msb
  | .ldVarAddr dst _ => dst != .r10
  | .ldCodeAddr dst _ => dst != .r10
  | .ldMapIdx dst _ => dst != .r10
  | .ldMapIdxVal dst _ next => dst != .r10 && !next.msb
  | .ldAbsW _ _ _ _ => true
  | .ldAbsH _ _ _ _ => true
  | .ldAbsB _ _ _ _ => true
  | .ldAbsDW _ _ _ _ => true
  | .ldIndW _ _ _ _ => true
  | .ldIndH _ _ _ _ => true
  | .ldIndB _ _ _ _ => true
  | .ldIndDW _ _ _ _ => true

end Sys2Proof
end

