-- ==== Sys2Proof/Decode.lean ====
section
/-! DEFINITION. The decoder (30_encoding.md R60 to R88), total on any eight bytes, and the encoder. -/

namespace Sys2Proof

/-- Why the decoder rejects an encoding (30_encoding.md R80). Every reason but `missingSecondSlot` is the fault
`IllegalInstruction`; `missingSecondSlot` is `PcOutOfRange(pc + 1)` (R66). -/
inductive Reject where
  /-- R80(a): an opcode byte no table defines. -/
  | undefinedOpcode
  /-- R80(b): a defined opcode with a selector field outside its defined values. -/
  | undefinedSelector
  /-- R82: a register number of 11 to 15. -/
  | registerNumber
  /-- R81: a non-zero value in an unused field. -/
  | unusedField
  /-- 10_state.md R24: an instruction that would write R10. -/
  | writesR10
  /-- R66, 45_imm64_legacy.md R220, R223: the second slot of a wide instruction is not as it must be. -/
  | secondSlot
  /-- R66: the second slot of a wide instruction lies outside the program. -/
  | missingSecondSlot
deriving DecidableEq, Repr

/-- The five fields of a basic instruction (30_encoding.md R60). -/
structure Fields where
  opcode : BitVec 8
  dst : BitVec 4
  src : BitVec 4
  offset : BitVec 16
  imm : BitVec 32
deriving DecidableEq, Repr

/-! ### The byte layout of a slot -/

/-- The fields of a slot: 30_encoding.md R61 in little-endian BPF, R62 in big-endian BPF. -/
def fieldsOf (e : Endian) (s : Slot) : Fields :=
  match e with
  | .little =>
    { opcode := s.b0, src := s.b1.extractLsb' 4 4, dst := s.b1.extractLsb' 0 4,
      offset := s.b3 ++ s.b2, imm := s.b7 ++ s.b6 ++ s.b5 ++ s.b4 }
  | .big =>
    { opcode := s.b0, dst := s.b1.extractLsb' 4 4, src := s.b1.extractLsb' 0 4,
      offset := s.b2 ++ s.b3, imm := s.b4 ++ s.b5 ++ s.b6 ++ s.b7 }

/-- Byte `j` of a value, byte 0 being the least significant. -/
def byteOf {w : Nat} (v : BitVec w) (j : Nat) : Byte := v.extractLsb' (8 * j) 8

/-- The slot that holds given fields: 30_encoding.md R61 in little-endian BPF, R62 in big-endian BPF. -/
def slotOf (e : Endian) (f : Fields) : Slot :=
  match e with
  | .little =>
    { b0 := f.opcode, b1 := f.src ++ f.dst, b2 := byteOf f.offset 0, b3 := byteOf f.offset 1,
      b4 := byteOf f.imm 0, b5 := byteOf f.imm 1, b6 := byteOf f.imm 2, b7 := byteOf f.imm 3 }
  | .big =>
    { b0 := f.opcode, b1 := f.dst ++ f.src, b2 := byteOf f.offset 1, b3 := byteOf f.offset 0,
      b4 := byteOf f.imm 3, b5 := byteOf f.imm 2, b6 := byteOf f.imm 1, b7 := byteOf f.imm 0 }

/-- The fields of a canonical instruction word (30_encoding.md R69). -/
def fieldsOfWord (insn : Nat) : Fields :=
  { opcode := BitVec.ofNat 8 insn, dst := BitVec.ofNat 4 (insn / 2 ^ 8), src := BitVec.ofNat 4 (insn / 2 ^ 12),
    offset := BitVec.ofNat 16 (insn / 2 ^ 16), imm := BitVec.ofNat 32 (insn / 2 ^ 32) }

/-- The slots of a program image: a program is a whole number of slots (70_reset_and_hazards.md R272), so an image
whose length is no multiple of eight bytes is none. -/
def slotsOfBytes : List Byte → Option (List Slot)
  | [] => some []
  | b0 :: b1 :: b2 :: b3 :: b4 :: b5 :: b6 :: b7 :: rest =>
    (slotsOfBytes rest).map (⟨b0, b1, b2, b3, b4, b5, b6, b7⟩ :: ·)
  | _ => none

/-! ### Registers -/

/-- The number of a register in a four-bit field (30_encoding.md R60, R82). -/
def Reg.toBits : Reg → BitVec 4
  | .r0 => 0#4
  | .r1 => 1#4
  | .r2 => 2#4
  | .r3 => 3#4
  | .r4 => 4#4
  | .r5 => 5#4
  | .r6 => 6#4
  | .r7 => 7#4
  | .r8 => 8#4
  | .r9 => 9#4
  | .r10 => 10#4

/-- The register a four-bit field names; 11 to 15 name none (30_encoding.md R82). -/
def regOfBits (n : BitVec 4) : Option Reg :=
  match n.toNat with
  | 0 => some .r0
  | 1 => some .r1
  | 2 => some .r2
  | 3 => some .r3
  | 4 => some .r4
  | 5 => some .r5
  | 6 => some .r6
  | 7 => some .r7
  | 8 => some .r8
  | 9 => some .r9
  | 10 => some .r10
  | _ => none

/-- A field that is read as a register number (30_encoding.md R82). -/
def readReg (n : BitVec 4) : Except Reject Reg :=
  match regOfBits n with
  | some r => .ok r
  | none => .error .registerNumber

/-- A field that names a register the instruction writes: R10 is refused (10_state.md R24). -/
def readDst (n : BitVec 4) : Except Reject Reg := do
  let r ← readReg n
  if r = .r10 then .error .writesR10 else .ok r

/-- Fields that must be zero (30_encoding.md R81). -/
def unused (zero : Bool) : Except Reject Unit :=
  if zero then .ok () else .error .unusedField

/-! ### One reader for each row of the table of used and unused fields, 30_encoding.md R81 -/

/-- Arithmetic with `BPF_K` and offset 0: `dst_reg` and `imm` are used. -/
def readAluK (f : Fields) (mk : Reg → BitVec 32 → Instr) : Except Reject Instr := do
  unused (f.src == 0 && f.offset == 0)
  let d ← readDst f.dst
  .ok (mk d f.imm)

/-- Arithmetic with `BPF_X` and offset 0: `dst_reg` and `src_reg` are used. -/
def readAluX (f : Fields) (mk : Reg → Reg → Instr) : Except Reject Instr := do
  unused (f.imm == 0 && f.offset == 0)
  let d ← readDst f.dst
  let r ← readReg f.src
  .ok (mk d r)

/-- A choice by the value of `offset`; a value without a choice is an undefined selector (30_encoding.md R80(b)). -/
def select {α : Type} (o : Option α) (k : α → Except Reject Instr) : Except Reject Instr :=
  match o with
  | some a => k a
  | none => .error .undefinedSelector

/-- `offset` 0 selects the unsigned, 1 the signed operation of a division or modulo opcode (40_alu.md R107, R108). -/
def signSelector {α : Type} (n : BitVec 16) (u v : α) : Option α :=
  match n.toNat with
  | 0 => some u
  | 1 => some v
  | _ => none

/-- Division and modulo with `BPF_K`. -/
def readAluKSigned (f : Fields) (mkU mkS : Reg → BitVec 32 → Instr) : Except Reject Instr :=
  select (signSelector f.offset mkU mkS) fun mk => readAluK { f with offset := 0 } mk

/-- Division and modulo with `BPF_X`. -/
def readAluXSigned (f : Fields) (mkU mkS : Reg → Reg → Instr) : Except Reject Instr :=
  select (signSelector f.offset mkU mkS) fun mk => readAluX { f with offset := 0 } mk

/-- `BPF_NEG`: `dst_reg` alone is used (40_alu.md R113). -/
def readUnary (f : Fields) (mk : Reg → Instr) : Except Reject Instr := do
  unused (f.src == 0 && f.offset == 0 && f.imm == 0)
  let d ← readDst f.dst
  .ok (mk d)

/-- `BPF_MOV | BPF_X`: `offset` 0 is the move, another defined value the width of `BPF_MOVSX` (40_alu.md R117, R118). -/
def readMovX (f : Fields) (mov : Reg → Reg → Instr) (sx : Nat → Option (Reg → Reg → Instr)) : Except Reject Instr :=
  select (if f.offset == 0 then some mov else sx f.offset.toNat) fun mk => readAluX { f with offset := 0 } mk

/-- `BPF_END`: `imm` is the width, `dst_reg` is used (41_byteswap.md R140). -/
def readSwap (f : Fields) (mk16 mk32 mk64 : Reg → Instr) : Except Reject Instr :=
  select (match f.imm.toNat with | 16 => some mk16 | 32 => some mk32 | 64 => some mk64 | _ => none) fun mk =>
    readUnary { f with imm := 0 } mk

/-- `BPF_JA` of class `BPF_JMP`: `offset` is used (42_jump.md R152). -/
def readJump (f : Fields) : Except Reject Instr := do
  unused (f.dst == 0 && f.src == 0 && f.imm == 0)
  .ok (.ja f.offset)

/-- `BPF_JA` of class `BPF_JMP32`: `imm` is used (42_jump.md R153). -/
def readJump32 (f : Fields) : Except Reject Instr := do
  unused (f.dst == 0 && f.src == 0 && f.offset == 0)
  .ok (.ja32 f.imm)

/-- A conditional jump with `BPF_K`: `dst_reg`, `offset` and `imm` are used. -/
def readJumpK (f : Fields) (mk : Reg → BitVec 16 → BitVec 32 → Instr) : Except Reject Instr := do
  unused (f.src == 0)
  let d ← readReg f.dst
  .ok (mk d f.offset f.imm)

/-- A conditional jump with `BPF_X`: `dst_reg`, `src_reg` and `offset` are used. -/
def readJumpX (f : Fields) (mk : Reg → Reg → BitVec 16 → Instr) : Except Reject Instr := do
  unused (f.imm == 0)
  let d ← readReg f.dst
  let r ← readReg f.src
  .ok (mk d r f.offset)

/-- `BPF_CALL`: `src_reg` selects the kind of call, `imm` is used (42_jump.md R170). -/
def readCall (f : Fields) : Except Reject Instr :=
  select (match f.src.toNat with | 0 => some Instr.callHelper | 1 => some .callLocal | 2 => some .callBtf | _ => none)
    fun mk => do
      unused (f.dst == 0 && f.offset == 0)
      .ok (mk f.imm)

/-- `BPF_EXIT`: no field is used (42_jump.md R174). -/
def readExit (f : Fields) : Except Reject Instr := do
  unused (f.dst == 0 && f.src == 0 && f.offset == 0 && f.imm == 0)
  .ok .exit

/-- A load: `dst_reg`, `src_reg` and `offset` are used; `dst_reg` is written (43_load_store.md sections 2, 3). -/
def readLoad (f : Fields) (mk : Reg → Reg → BitVec 16 → Instr) : Except Reject Instr := do
  unused (f.imm == 0)
  let d ← readDst f.dst
  let r ← readReg f.src
  .ok (mk d r f.offset)

/-- A store of an immediate: `dst_reg`, `offset` and `imm` are used (43_load_store.md section 4). -/
def readStoreK (f : Fields) (mk : Reg → BitVec 16 → BitVec 32 → Instr) : Except Reject Instr :=
  readJumpK f mk

/-- A store of a register: `dst_reg`, `src_reg` and `offset` are used (43_load_store.md section 5). -/
def readStoreX (f : Fields) (mk : Reg → Reg → BitVec 16 → Instr) : Except Reject Instr :=
  readJumpX f mk

/-- An atomic instruction whose operation is selected: a fetching form writes `src_reg`, so R10 is refused there
(44_atomic.md R202, R203). -/
def readAtomic (f : Fields) (op : Option (Bool × (Reg → Reg → BitVec 16 → Instr))) : Except Reject Instr :=
  select op fun p => do
    let d ← readReg f.dst
    let r ← if p.1 then readDst f.src else readReg f.src
    .ok (p.2 d r f.offset)

/-- The operation of an atomic instruction of 32 bits, selected by all 32 bits of `imm`, with whether it writes `src`
(44_atomic.md R201, R202). -/
def atomicOf32 (imm : BitVec 32) : Option (Bool × (Reg → Reg → BitVec 16 → Instr)) :=
  match imm.toNat with
  | 0x00 => some (false, .atomicAdd32)
  | 0x01 => some (true, .fetchAdd32)
  | 0x40 => some (false, .atomicOr32)
  | 0x41 => some (true, .fetchOr32)
  | 0x50 => some (false, .atomicAnd32)
  | 0x51 => some (true, .fetchAnd32)
  | 0xa0 => some (false, .atomicXor32)
  | 0xa1 => some (true, .fetchXor32)
  | 0xe1 => some (true, .xchg32)
  | 0xf1 => some (false, .cmpxchg32)
  | _ => none

/-- Opcode 0xc3 (44_atomic.md R201): all four fields are used. -/
def readAtomic32 (f : Fields) : Except Reject Instr :=
  readAtomic f (atomicOf32 f.imm)

/-- The operation of an atomic instruction of 64 bits, selected by all 32 bits of `imm`, with whether it writes `src`
(44_atomic.md R201, R202). -/
def atomicOf64 (imm : BitVec 32) : Option (Bool × (Reg → Reg → BitVec 16 → Instr)) :=
  match imm.toNat with
  | 0x00 => some (false, .atomicAdd64)
  | 0x01 => some (true, .fetchAdd64)
  | 0x40 => some (false, .atomicOr64)
  | 0x41 => some (true, .fetchOr64)
  | 0x50 => some (false, .atomicAnd64)
  | 0x51 => some (true, .fetchAnd64)
  | 0xa0 => some (false, .atomicXor64)
  | 0xa1 => some (true, .fetchXor64)
  | 0xe1 => some (true, .xchg64)
  | 0xf1 => some (false, .cmpxchg64)
  | _ => none

/-- Opcode 0xdb (44_atomic.md R201): all four fields are used. -/
def readAtomic64 (f : Fields) : Except Reject Instr :=
  readAtomic f (atomicOf64 f.imm)

/-- `next_imm` of a wide instruction, from the fields of the second slot: `opcode`, `dst_reg`, `src_reg` and `offset`
must be zero, and a slot outside the program is reported apart (30_encoding.md R66). -/
def readNext (next : Option Fields) : Except Reject (BitVec 32) :=
  match next with
  | none => .error .missingSecondSlot
  | some g =>
    if g.opcode == 0 && g.dst == 0 && g.src == 0 && g.offset == 0 then .ok g.imm else .error .secondSlot

/-- The second slot of a subtype that does not use `next_imm`: it must be zero (45_imm64_legacy.md R220). -/
def readNextZero (next : Option Fields) : Except Reject Unit := do
  let n ← readNext next
  if n == 0 then .ok () else .error .secondSlot

/-- The second slot of a map-value subtype: bit 31 of `next_imm` must be 0 (45_imm64_legacy.md R223, R227). -/
def readNextAddend (next : Option Fields) : Except Reject (BitVec 32) := do
  let n ← readNext next
  if n.msb then .error .secondSlot else .ok n

/-- The subtype of opcode 0x18, held in `src_reg` (45_imm64_legacy.md R220). -/
def readSubtype (f : Fields) (next : Option Fields) (d : Reg) : Except Reject Instr :=
  match f.src.toNat with
  | 0 => do let n ← readNext next; .ok (.ldImm64 d f.imm n)
  | 1 => do readNextZero next; .ok (.ldMapFd d f.imm)
  | 2 => do let n ← readNextAddend next; .ok (.ldMapFdVal d f.imm n)
  | 3 => do readNextZero next; .ok (.ldVarAddr d f.imm)
  | 4 => do readNextZero next; .ok (.ldCodeAddr d f.imm)
  | 5 => do readNextZero next; .ok (.ldMapIdx d f.imm)
  | 6 => do let n ← readNextAddend next; .ok (.ldMapIdxVal d f.imm n)
  | _ => .error .undefinedSelector

/-- Opcode 0x18: the checks of the first slot come before the second slot is looked at (30_encoding.md R88, steps (4)
and (5)). -/
def readWide (f : Fields) (next : Option Fields) : Except Reject Instr := do
  if f.src.toNat ≤ 6 then .ok () else .error .undefinedSelector
  unused (f.offset == 0)
  let d ← readDst f.dst
  readSubtype f next d

/-- The instruction given fields encode (30_encoding.md R70 to R79, R88), with the fields of the following slot, or
none where the program ends. A legacy opcode decodes whatever its other fields hold (45_imm64_legacy.md R231). -/
def decodeFields (f : Fields) (next : Option Fields) : Except Reject Instr :=
  match f.opcode.toNat with
  | 0x04 => readAluK f .add32K
  | 0x05 => readJump f
  | 0x06 => readJump32 f
  | 0x07 => readAluK f .add64K
  | 0x0c => readAluX f .add32X
  | 0x0f => readAluX f .add64X
  | 0x14 => readAluK f .sub32K
  | 0x15 => readJumpK f .jeq64K
  | 0x16 => readJumpK f .jeq32K
  | 0x17 => readAluK f .sub64K
  | 0x18 => readWide f next
  | 0x1c => readAluX f .sub32X
  | 0x1d => readJumpX f .jeq64X
  | 0x1e => readJumpX f .jeq32X
  | 0x1f => readAluX f .sub64X
  | 0x20 => .ok (.ldAbsW f.dst f.src f.offset f.imm)
  | 0x24 => readAluK f .mul32K
  | 0x25 => readJumpK f .jgt64K
  | 0x26 => readJumpK f .jgt32K
  | 0x27 => readAluK f .mul64K
  | 0x28 => .ok (.ldAbsH f.dst f.src f.offset f.imm)
  | 0x2c => readAluX f .mul32X
  | 0x2d => readJumpX f .jgt64X
  | 0x2e => readJumpX f .jgt32X
  | 0x2f => readAluX f .mul64X
  | 0x30 => .ok (.ldAbsB f.dst f.src f.offset f.imm)
  | 0x34 => readAluKSigned f .div32K .sdiv32K
  | 0x35 => readJumpK f .jge64K
  | 0x36 => readJumpK f .jge32K
  | 0x37 => readAluKSigned f .div64K .sdiv64K
  | 0x38 => .ok (.ldAbsDW f.dst f.src f.offset f.imm)
  | 0x3c => readAluXSigned f .div32X .sdiv32X
  | 0x3d => readJumpX f .jge64X
  | 0x3e => readJumpX f .jge32X
  | 0x3f => readAluXSigned f .div64X .sdiv64X
  | 0x40 => .ok (.ldIndW f.dst f.src f.offset f.imm)
  | 0x44 => readAluK f .or32K
  | 0x45 => readJumpK f .jset64K
  | 0x46 => readJumpK f .jset32K
  | 0x47 => readAluK f .or64K
  | 0x48 => .ok (.ldIndH f.dst f.src f.offset f.imm)
  | 0x4c => readAluX f .or32X
  | 0x4d => readJumpX f .jset64X
  | 0x4e => readJumpX f .jset32X
  | 0x4f => readAluX f .or64X
  | 0x50 => .ok (.ldIndB f.dst f.src f.offset f.imm)
  | 0x54 => readAluK f .and32K
  | 0x55 => readJumpK f .jne64K
  | 0x56 => readJumpK f .jne32K
  | 0x57 => readAluK f .and64K
  | 0x58 => .ok (.ldIndDW f.dst f.src f.offset f.imm)
  | 0x5c => readAluX f .and32X
  | 0x5d => readJumpX f .jne64X
  | 0x5e => readJumpX f .jne32X
  | 0x5f => readAluX f .and64X
  | 0x61 => readLoad f .ldxW
  | 0x62 => readStoreK f .stW
  | 0x63 => readStoreX f .stxW
  | 0x64 => readAluK f .lsh32K
  | 0x65 => readJumpK f .jsgt64K
  | 0x66 => readJumpK f .jsgt32K
  | 0x67 => readAluK f .lsh64K
  | 0x69 => readLoad f .ldxH
  | 0x6a => readStoreK f .stH
  | 0x6b => readStoreX f .stxH
  | 0x6c => readAluX f .lsh32X
  | 0x6d => readJumpX f .jsgt64X
  | 0x6e => readJumpX f .jsgt32X
  | 0x6f => readAluX f .lsh64X
  | 0x71 => readLoad f .ldxB
  | 0x72 => readStoreK f .stB
  | 0x73 => readStoreX f .stxB
  | 0x74 => readAluK f .rsh32K
  | 0x75 => readJumpK f .jsge64K
  | 0x76 => readJumpK f .jsge32K
  | 0x77 => readAluK f .rsh64K
  | 0x79 => readLoad f .ldxDW
  | 0x7a => readStoreK f .stDW
  | 0x7b => readStoreX f .stxDW
  | 0x7c => readAluX f .rsh32X
  | 0x7d => readJumpX f .jsge64X
  | 0x7e => readJumpX f .jsge32X
  | 0x7f => readAluX f .rsh64X
  | 0x81 => readLoad f .ldxsW
  | 0x84 => readUnary f .neg32
  | 0x85 => readCall f
  | 0x87 => readUnary f .neg64
  | 0x89 => readLoad f .ldxsH
  | 0x91 => readLoad f .ldxsB
  | 0x94 => readAluKSigned f .mod32K .smod32K
  | 0x95 => readExit f
  | 0x97 => readAluKSigned f .mod64K .smod64K
  | 0x9c => readAluXSigned f .mod32X .smod32X
  | 0x9f => readAluXSigned f .mod64X .smod64X
  | 0xa4 => readAluK f .xor32K
  | 0xa5 => readJumpK f .jlt64K
  | 0xa6 => readJumpK f .jlt32K
  | 0xa7 => readAluK f .xor64K
  | 0xac => readAluX f .xor32X
  | 0xad => readJumpX f .jlt64X
  | 0xae => readJumpX f .jlt32X
  | 0xaf => readAluX f .xor64X
  | 0xb4 => readAluK f .mov32K
  | 0xb5 => readJumpK f .jle64K
  | 0xb6 => readJumpK f .jle32K
  | 0xb7 => readAluK f .mov64K
  | 0xbc => readMovX f .mov32X (fun n => match n with | 8 => some .movsx8to32 | 16 => some .movsx16to32 | _ => none)
  | 0xbd => readJumpX f .jle64X
  | 0xbe => readJumpX f .jle32X
  | 0xbf => readMovX f .mov64X (fun n => match n with | 8 => some .movsx8to64 | 16 => some .movsx16to64 | 32 => some .movsx32to64 | _ => none)
  | 0xc3 => readAtomic32 f
  | 0xc4 => readAluK f .arsh32K
  | 0xc5 => readJumpK f .jslt64K
  | 0xc6 => readJumpK f .jslt32K
  | 0xc7 => readAluK f .arsh64K
  | 0xcc => readAluX f .arsh32X
  | 0xcd => readJumpX f .jslt64X
  | 0xce => readJumpX f .jslt32X
  | 0xcf => readAluX f .arsh64X
  | 0xd4 => readSwap f .toLe16 .toLe32 .toLe64
  | 0xd5 => readJumpK f .jsle64K
  | 0xd6 => readJumpK f .jsle32K
  | 0xd7 => readSwap f .bswap16 .bswap32 .bswap64
  | 0xdb => readAtomic64 f
  | 0xdc => readSwap f .toBe16 .toBe32 .toBe64
  | 0xdd => readJumpX f .jsle64X
  | 0xde => readJumpX f .jsle32X
  | _ => .error .undefinedOpcode

/-- The instruction in a slot, for a machine of the given byte order (30_encoding.md R88). -/
def decode (e : Endian) (slot : Slot) (next : Option Slot) : Except Reject Instr :=
  decodeFields (fieldsOf e slot) (next.map (fieldsOf e))

/-! ### The encoder -/

/-- The fields of an instruction's first slot and, for a wide instruction, its `next_imm` (30_encoding.md R70 to R78). -/
def encodeParts : Instr → Fields × Option (BitVec 32)
  | .add64K dst imm => (⟨0x07#8, dst.toBits, 0#4, 0#16, imm⟩, none)
  | .add64X dst src => (⟨0x0f#8, dst.toBits, src.toBits, 0#16, 0#32⟩, none)
  | .sub64K dst imm => (⟨0x17#8, dst.toBits, 0#4, 0#16, imm⟩, none)
  | .sub64X dst src => (⟨0x1f#8, dst.toBits, src.toBits, 0#16, 0#32⟩, none)
  | .mul64K dst imm => (⟨0x27#8, dst.toBits, 0#4, 0#16, imm⟩, none)
  | .mul64X dst src => (⟨0x2f#8, dst.toBits, src.toBits, 0#16, 0#32⟩, none)
  | .div64K dst imm => (⟨0x37#8, dst.toBits, 0#4, 0#16, imm⟩, none)
  | .div64X dst src => (⟨0x3f#8, dst.toBits, src.toBits, 0#16, 0#32⟩, none)
  | .sdiv64K dst imm => (⟨0x37#8, dst.toBits, 0#4, 1#16, imm⟩, none)
  | .sdiv64X dst src => (⟨0x3f#8, dst.toBits, src.toBits, 1#16, 0#32⟩, none)
  | .or64K dst imm => (⟨0x47#8, dst.toBits, 0#4, 0#16, imm⟩, none)
  | .or64X dst src => (⟨0x4f#8, dst.toBits, src.toBits, 0#16, 0#32⟩, none)
  | .and64K dst imm => (⟨0x57#8, dst.toBits, 0#4, 0#16, imm⟩, none)
  | .and64X dst src => (⟨0x5f#8, dst.toBits, src.toBits, 0#16, 0#32⟩, none)
  | .lsh64K dst imm => (⟨0x67#8, dst.toBits, 0#4, 0#16, imm⟩, none)
  | .lsh64X dst src => (⟨0x6f#8, dst.toBits, src.toBits, 0#16, 0#32⟩, none)
  | .rsh64K dst imm => (⟨0x77#8, dst.toBits, 0#4, 0#16, imm⟩, none)
  | .rsh64X dst src => (⟨0x7f#8, dst.toBits, src.toBits, 0#16, 0#32⟩, none)
  | .mod64K dst imm => (⟨0x97#8, dst.toBits, 0#4, 0#16, imm⟩, none)
  | .mod64X dst src => (⟨0x9f#8, dst.toBits, src.toBits, 0#16, 0#32⟩, none)
  | .smod64K dst imm => (⟨0x97#8, dst.toBits, 0#4, 1#16, imm⟩, none)
  | .smod64X dst src => (⟨0x9f#8, dst.toBits, src.toBits, 1#16, 0#32⟩, none)
  | .xor64K dst imm => (⟨0xa7#8, dst.toBits, 0#4, 0#16, imm⟩, none)
  | .xor64X dst src => (⟨0xaf#8, dst.toBits, src.toBits, 0#16, 0#32⟩, none)
  | .arsh64K dst imm => (⟨0xc7#8, dst.toBits, 0#4, 0#16, imm⟩, none)
  | .arsh64X dst src => (⟨0xcf#8, dst.toBits, src.toBits, 0#16, 0#32⟩, none)
  | .neg64 dst => (⟨0x87#8, dst.toBits, 0#4, 0#16, 0#32⟩, none)
  | .mov64K dst imm => (⟨0xb7#8, dst.toBits, 0#4, 0#16, imm⟩, none)
  | .mov64X dst src => (⟨0xbf#8, dst.toBits, src.toBits, 0#16, 0#32⟩, none)
  | .movsx8to64 dst src => (⟨0xbf#8, dst.toBits, src.toBits, 8#16, 0#32⟩, none)
  | .movsx16to64 dst src => (⟨0xbf#8, dst.toBits, src.toBits, 16#16, 0#32⟩, none)
  | .movsx32to64 dst src => (⟨0xbf#8, dst.toBits, src.toBits, 32#16, 0#32⟩, none)
  | .add32K dst imm => (⟨0x04#8, dst.toBits, 0#4, 0#16, imm⟩, none)
  | .add32X dst src => (⟨0x0c#8, dst.toBits, src.toBits, 0#16, 0#32⟩, none)
  | .sub32K dst imm => (⟨0x14#8, dst.toBits, 0#4, 0#16, imm⟩, none)
  | .sub32X dst src => (⟨0x1c#8, dst.toBits, src.toBits, 0#16, 0#32⟩, none)
  | .mul32K dst imm => (⟨0x24#8, dst.toBits, 0#4, 0#16, imm⟩, none)
  | .mul32X dst src => (⟨0x2c#8, dst.toBits, src.toBits, 0#16, 0#32⟩, none)
  | .div32K dst imm => (⟨0x34#8, dst.toBits, 0#4, 0#16, imm⟩, none)
  | .div32X dst src => (⟨0x3c#8, dst.toBits, src.toBits, 0#16, 0#32⟩, none)
  | .sdiv32K dst imm => (⟨0x34#8, dst.toBits, 0#4, 1#16, imm⟩, none)
  | .sdiv32X dst src => (⟨0x3c#8, dst.toBits, src.toBits, 1#16, 0#32⟩, none)
  | .or32K dst imm => (⟨0x44#8, dst.toBits, 0#4, 0#16, imm⟩, none)
  | .or32X dst src => (⟨0x4c#8, dst.toBits, src.toBits, 0#16, 0#32⟩, none)
  | .and32K dst imm => (⟨0x54#8, dst.toBits, 0#4, 0#16, imm⟩, none)
  | .and32X dst src => (⟨0x5c#8, dst.toBits, src.toBits, 0#16, 0#32⟩, none)
  | .lsh32K dst imm => (⟨0x64#8, dst.toBits, 0#4, 0#16, imm⟩, none)
  | .lsh32X dst src => (⟨0x6c#8, dst.toBits, src.toBits, 0#16, 0#32⟩, none)
  | .rsh32K dst imm => (⟨0x74#8, dst.toBits, 0#4, 0#16, imm⟩, none)
  | .rsh32X dst src => (⟨0x7c#8, dst.toBits, src.toBits, 0#16, 0#32⟩, none)
  | .mod32K dst imm => (⟨0x94#8, dst.toBits, 0#4, 0#16, imm⟩, none)
  | .mod32X dst src => (⟨0x9c#8, dst.toBits, src.toBits, 0#16, 0#32⟩, none)
  | .smod32K dst imm => (⟨0x94#8, dst.toBits, 0#4, 1#16, imm⟩, none)
  | .smod32X dst src => (⟨0x9c#8, dst.toBits, src.toBits, 1#16, 0#32⟩, none)
  | .xor32K dst imm => (⟨0xa4#8, dst.toBits, 0#4, 0#16, imm⟩, none)
  | .xor32X dst src => (⟨0xac#8, dst.toBits, src.toBits, 0#16, 0#32⟩, none)
  | .arsh32K dst imm => (⟨0xc4#8, dst.toBits, 0#4, 0#16, imm⟩, none)
  | .arsh32X dst src => (⟨0xcc#8, dst.toBits, src.toBits, 0#16, 0#32⟩, none)
  | .neg32 dst => (⟨0x84#8, dst.toBits, 0#4, 0#16, 0#32⟩, none)
  | .mov32K dst imm => (⟨0xb4#8, dst.toBits, 0#4, 0#16, imm⟩, none)
  | .mov32X dst src => (⟨0xbc#8, dst.toBits, src.toBits, 0#16, 0#32⟩, none)
  | .movsx8to32 dst src => (⟨0xbc#8, dst.toBits, src.toBits, 8#16, 0#32⟩, none)
  | .movsx16to32 dst src => (⟨0xbc#8, dst.toBits, src.toBits, 16#16, 0#32⟩, none)
  | .toLe16 dst => (⟨0xd4#8, dst.toBits, 0#4, 0#16, 16#32⟩, none)
  | .toLe32 dst => (⟨0xd4#8, dst.toBits, 0#4, 0#16, 32#32⟩, none)
  | .toLe64 dst => (⟨0xd4#8, dst.toBits, 0#4, 0#16, 64#32⟩, none)
  | .toBe16 dst => (⟨0xdc#8, dst.toBits, 0#4, 0#16, 16#32⟩, none)
  | .toBe32 dst => (⟨0xdc#8, dst.toBits, 0#4, 0#16, 32#32⟩, none)
  | .toBe64 dst => (⟨0xdc#8, dst.toBits, 0#4, 0#16, 64#32⟩, none)
  | .bswap16 dst => (⟨0xd7#8, dst.toBits, 0#4, 0#16, 16#32⟩, none)
  | .bswap32 dst => (⟨0xd7#8, dst.toBits, 0#4, 0#16, 32#32⟩, none)
  | .bswap64 dst => (⟨0xd7#8, dst.toBits, 0#4, 0#16, 64#32⟩, none)
  | .ja off => (⟨0x05#8, 0#4, 0#4, off, 0#32⟩, none)
  | .ja32 imm => (⟨0x06#8, 0#4, 0#4, 0#16, imm⟩, none)
  | .jeq64K dst off imm => (⟨0x15#8, dst.toBits, 0#4, off, imm⟩, none)
  | .jeq64X dst src off => (⟨0x1d#8, dst.toBits, src.toBits, off, 0#32⟩, none)
  | .jgt64K dst off imm => (⟨0x25#8, dst.toBits, 0#4, off, imm⟩, none)
  | .jgt64X dst src off => (⟨0x2d#8, dst.toBits, src.toBits, off, 0#32⟩, none)
  | .jge64K dst off imm => (⟨0x35#8, dst.toBits, 0#4, off, imm⟩, none)
  | .jge64X dst src off => (⟨0x3d#8, dst.toBits, src.toBits, off, 0#32⟩, none)
  | .jset64K dst off imm => (⟨0x45#8, dst.toBits, 0#4, off, imm⟩, none)
  | .jset64X dst src off => (⟨0x4d#8, dst.toBits, src.toBits, off, 0#32⟩, none)
  | .jne64K dst off imm => (⟨0x55#8, dst.toBits, 0#4, off, imm⟩, none)
  | .jne64X dst src off => (⟨0x5d#8, dst.toBits, src.toBits, off, 0#32⟩, none)
  | .jsgt64K dst off imm => (⟨0x65#8, dst.toBits, 0#4, off, imm⟩, none)
  | .jsgt64X dst src off => (⟨0x6d#8, dst.toBits, src.toBits, off, 0#32⟩, none)
  | .jsge64K dst off imm => (⟨0x75#8, dst.toBits, 0#4, off, imm⟩, none)
  | .jsge64X dst src off => (⟨0x7d#8, dst.toBits, src.toBits, off, 0#32⟩, none)
  | .jlt64K dst off imm => (⟨0xa5#8, dst.toBits, 0#4, off, imm⟩, none)
  | .jlt64X dst src off => (⟨0xad#8, dst.toBits, src.toBits, off, 0#32⟩, none)
  | .jle64K dst off imm => (⟨0xb5#8, dst.toBits, 0#4, off, imm⟩, none)
  | .jle64X dst src off => (⟨0xbd#8, dst.toBits, src.toBits, off, 0#32⟩, none)
  | .jslt64K dst off imm => (⟨0xc5#8, dst.toBits, 0#4, off, imm⟩, none)
  | .jslt64X dst src off => (⟨0xcd#8, dst.toBits, src.toBits, off, 0#32⟩, none)
  | .jsle64K dst off imm => (⟨0xd5#8, dst.toBits, 0#4, off, imm⟩, none)
  | .jsle64X dst src off => (⟨0xdd#8, dst.toBits, src.toBits, off, 0#32⟩, none)
  | .jeq32K dst off imm => (⟨0x16#8, dst.toBits, 0#4, off, imm⟩, none)
  | .jeq32X dst src off => (⟨0x1e#8, dst.toBits, src.toBits, off, 0#32⟩, none)
  | .jgt32K dst off imm => (⟨0x26#8, dst.toBits, 0#4, off, imm⟩, none)
  | .jgt32X dst src off => (⟨0x2e#8, dst.toBits, src.toBits, off, 0#32⟩, none)
  | .jge32K dst off imm => (⟨0x36#8, dst.toBits, 0#4, off, imm⟩, none)
  | .jge32X dst src off => (⟨0x3e#8, dst.toBits, src.toBits, off, 0#32⟩, none)
  | .jset32K dst off imm => (⟨0x46#8, dst.toBits, 0#4, off, imm⟩, none)
  | .jset32X dst src off => (⟨0x4e#8, dst.toBits, src.toBits, off, 0#32⟩, none)
  | .jne32K dst off imm => (⟨0x56#8, dst.toBits, 0#4, off, imm⟩, none)
  | .jne32X dst src off => (⟨0x5e#8, dst.toBits, src.toBits, off, 0#32⟩, none)
  | .jsgt32K dst off imm => (⟨0x66#8, dst.toBits, 0#4, off, imm⟩, none)
  | .jsgt32X dst src off => (⟨0x6e#8, dst.toBits, src.toBits, off, 0#32⟩, none)
  | .jsge32K dst off imm => (⟨0x76#8, dst.toBits, 0#4, off, imm⟩, none)
  | .jsge32X dst src off => (⟨0x7e#8, dst.toBits, src.toBits, off, 0#32⟩, none)
  | .jlt32K dst off imm => (⟨0xa6#8, dst.toBits, 0#4, off, imm⟩, none)
  | .jlt32X dst src off => (⟨0xae#8, dst.toBits, src.toBits, off, 0#32⟩, none)
  | .jle32K dst off imm => (⟨0xb6#8, dst.toBits, 0#4, off, imm⟩, none)
  | .jle32X dst src off => (⟨0xbe#8, dst.toBits, src.toBits, off, 0#32⟩, none)
  | .jslt32K dst off imm => (⟨0xc6#8, dst.toBits, 0#4, off, imm⟩, none)
  | .jslt32X dst src off => (⟨0xce#8, dst.toBits, src.toBits, off, 0#32⟩, none)
  | .jsle32K dst off imm => (⟨0xd6#8, dst.toBits, 0#4, off, imm⟩, none)
  | .jsle32X dst src off => (⟨0xde#8, dst.toBits, src.toBits, off, 0#32⟩, none)
  | .callHelper imm => (⟨0x85#8, 0#4, 0#4, 0#16, imm⟩, none)
  | .callLocal imm => (⟨0x85#8, 0#4, 1#4, 0#16, imm⟩, none)
  | .callBtf imm => (⟨0x85#8, 0#4, 2#4, 0#16, imm⟩, none)
  | .exit => (⟨0x95#8, 0#4, 0#4, 0#16, 0#32⟩, none)
  | .ldxW dst src off => (⟨0x61#8, dst.toBits, src.toBits, off, 0#32⟩, none)
  | .ldxH dst src off => (⟨0x69#8, dst.toBits, src.toBits, off, 0#32⟩, none)
  | .ldxB dst src off => (⟨0x71#8, dst.toBits, src.toBits, off, 0#32⟩, none)
  | .ldxDW dst src off => (⟨0x79#8, dst.toBits, src.toBits, off, 0#32⟩, none)
  | .ldxsW dst src off => (⟨0x81#8, dst.toBits, src.toBits, off, 0#32⟩, none)
  | .ldxsH dst src off => (⟨0x89#8, dst.toBits, src.toBits, off, 0#32⟩, none)
  | .ldxsB dst src off => (⟨0x91#8, dst.toBits, src.toBits, off, 0#32⟩, none)
  | .stW dst off imm => (⟨0x62#8, dst.toBits, 0#4, off, imm⟩, none)
  | .stH dst off imm => (⟨0x6a#8, dst.toBits, 0#4, off, imm⟩, none)
  | .stB dst off imm => (⟨0x72#8, dst.toBits, 0#4, off, imm⟩, none)
  | .stDW dst off imm => (⟨0x7a#8, dst.toBits, 0#4, off, imm⟩, none)
  | .stxW dst src off => (⟨0x63#8, dst.toBits, src.toBits, off, 0#32⟩, none)
  | .stxH dst src off => (⟨0x6b#8, dst.toBits, src.toBits, off, 0#32⟩, none)
  | .stxB dst src off => (⟨0x73#8, dst.toBits, src.toBits, off, 0#32⟩, none)
  | .stxDW dst src off => (⟨0x7b#8, dst.toBits, src.toBits, off, 0#32⟩, none)
  | .atomicAdd32 dst src off => (⟨0xc3#8, dst.toBits, src.toBits, off, 0x00#32⟩, none)
  | .fetchAdd32 dst src off => (⟨0xc3#8, dst.toBits, src.toBits, off, 0x01#32⟩, none)
  | .atomicOr32 dst src off => (⟨0xc3#8, dst.toBits, src.toBits, off, 0x40#32⟩, none)
  | .fetchOr32 dst src off => (⟨0xc3#8, dst.toBits, src.toBits, off, 0x41#32⟩, none)
  | .atomicAnd32 dst src off => (⟨0xc3#8, dst.toBits, src.toBits, off, 0x50#32⟩, none)
  | .fetchAnd32 dst src off => (⟨0xc3#8, dst.toBits, src.toBits, off, 0x51#32⟩, none)
  | .atomicXor32 dst src off => (⟨0xc3#8, dst.toBits, src.toBits, off, 0xa0#32⟩, none)
  | .fetchXor32 dst src off => (⟨0xc3#8, dst.toBits, src.toBits, off, 0xa1#32⟩, none)
  | .xchg32 dst src off => (⟨0xc3#8, dst.toBits, src.toBits, off, 0xe1#32⟩, none)
  | .cmpxchg32 dst src off => (⟨0xc3#8, dst.toBits, src.toBits, off, 0xf1#32⟩, none)
  | .atomicAdd64 dst src off => (⟨0xdb#8, dst.toBits, src.toBits, off, 0x00#32⟩, none)
  | .fetchAdd64 dst src off => (⟨0xdb#8, dst.toBits, src.toBits, off, 0x01#32⟩, none)
  | .atomicOr64 dst src off => (⟨0xdb#8, dst.toBits, src.toBits, off, 0x40#32⟩, none)
  | .fetchOr64 dst src off => (⟨0xdb#8, dst.toBits, src.toBits, off, 0x41#32⟩, none)
  | .atomicAnd64 dst src off => (⟨0xdb#8, dst.toBits, src.toBits, off, 0x50#32⟩, none)
  | .fetchAnd64 dst src off => (⟨0xdb#8, dst.toBits, src.toBits, off, 0x51#32⟩, none)
  | .atomicXor64 dst src off => (⟨0xdb#8, dst.toBits, src.toBits, off, 0xa0#32⟩, none)
  | .fetchXor64 dst src off => (⟨0xdb#8, dst.toBits, src.toBits, off, 0xa1#32⟩, none)
  | .xchg64 dst src off => (⟨0xdb#8, dst.toBits, src.toBits, off, 0xe1#32⟩, none)
  | .cmpxchg64 dst src off => (⟨0xdb#8, dst.toBits, src.toBits, off, 0xf1#32⟩, none)
  | .ldImm64 dst imm next => (⟨0x18#8, dst.toBits, 0#4, 0#16, imm⟩, some next)
  | .ldMapFd dst imm => (⟨0x18#8, dst.toBits, 1#4, 0#16, imm⟩, some 0#32)
  | .ldMapFdVal dst imm next => (⟨0x18#8, dst.toBits, 2#4, 0#16, imm⟩, some next)
  | .ldVarAddr dst imm => (⟨0x18#8, dst.toBits, 3#4, 0#16, imm⟩, some 0#32)
  | .ldCodeAddr dst imm => (⟨0x18#8, dst.toBits, 4#4, 0#16, imm⟩, some 0#32)
  | .ldMapIdx dst imm => (⟨0x18#8, dst.toBits, 5#4, 0#16, imm⟩, some 0#32)
  | .ldMapIdxVal dst imm next => (⟨0x18#8, dst.toBits, 6#4, 0#16, imm⟩, some next)
  | .ldAbsW dst src off imm => (⟨0x20#8, dst, src, off, imm⟩, none)
  | .ldAbsH dst src off imm => (⟨0x28#8, dst, src, off, imm⟩, none)
  | .ldAbsB dst src off imm => (⟨0x30#8, dst, src, off, imm⟩, none)
  | .ldAbsDW dst src off imm => (⟨0x38#8, dst, src, off, imm⟩, none)
  | .ldIndW dst src off imm => (⟨0x40#8, dst, src, off, imm⟩, none)
  | .ldIndH dst src off imm => (⟨0x48#8, dst, src, off, imm⟩, none)
  | .ldIndB dst src off imm => (⟨0x50#8, dst, src, off, imm⟩, none)
  | .ldIndDW dst src off imm => (⟨0x58#8, dst, src, off, imm⟩, none)

/-- The fields of the second slot of a wide instruction (30_encoding.md R66). -/
def pseudoFields (next : BitVec 32) : Fields :=
  { opcode := 0, dst := 0, src := 0, offset := 0, imm := next }

/-- The slots of an instruction, for a machine of the given byte order. -/
def encode (e : Endian) (i : Instr) : List Slot :=
  slotOf e (encodeParts i).1 :: ((encodeParts i).2.map fun n => slotOf e (pseudoFields n)).toList

/-! ### Words as spec/opcode_table.json numbers them -/

/-- The two slots of an instruction given as the low `nbits` bits of `w`: the first slot's canonical word (30_encoding.md
R69) in bits 63 to 0, the second slot's in bits 127 to 64, every other bit 0. -/
def slotsOfTableWord (e : Endian) (nbits w : Nat) : Slot × Slot :=
  let v := w % 2 ^ nbits
  (slotOf e (fieldsOfWord v), slotOf e (fieldsOfWord (v / 2 ^ 64)))

/-- What the decoder reads from an instruction whose bits are `w`, laid out as little-endian BPF stores it. -/
def decodeTableWord (nbits w : Nat) : Option Instr :=
  let p := slotsOfTableWord .little nbits w
  (decode .little p.1 (some p.2)).toOption

/-- `prog` with two slots stored at index `k`, filled up with zero slots where the program is shorter. -/
def placeSlots (prog : List Slot) (k : Nat) (p : Slot × Slot) : List Slot :=
  prog.take k ++ List.replicate (k - prog.length) (slotOf .little (fieldsOfWord 0)) ++ [p.1, p.2] ++ prog.drop (k + 2)

end Sys2Proof
end

