-- ==== Sys2Proof/Machine/Fetch.lean ====
section
/-! DEFINITION. Fetching and decoding the instruction at `pc` (10_state.md R27; 30_encoding.md R88). -/

namespace Sys2Proof.Machine

/-- The slot at an index, or none outside the program (10_state.md R27). -/
def slotAt (prog : List Slot) (pc : Int) : Option Slot :=
  if pc < 0 then none else prog[pc.toNat]?

/-- The fault a rejected encoding raises (30_encoding.md R66, R80). -/
def faultOfReject (pc : Int) : Reject → Fault
  | .missingSecondSlot => .pcOutOfRange (pc + 1)
  | .undefinedOpcode => .illegalInstruction pc
  | .undefinedSelector => .illegalInstruction pc
  | .registerNumber => .illegalInstruction pc
  | .unusedField => .illegalInstruction pc
  | .writesR10 => .illegalInstruction pc
  | .secondSlot => .illegalInstruction pc

/-- The instruction at `pc`, or the fault its fetch or decode raises. -/
def fetch (s : State) : Except Fault Instr :=
  match slotAt s.prog s.pc with
  | none => .error (.pcOutOfRange s.pc)
  | some slot =>
    match decode s.plat.endian slot (slotAt s.prog (s.pc + 1)) with
    | .ok i => .ok i
    | .error r => .error (faultOfReject s.pc r)

/-- The state that runs the instruction in these slots next: they are stored where the fetch reads, `pc` is inside the
program and the run is on. Both are so at reset already. -/
def placeNext (s : State) (p : Slot × Slot) : State :=
  { s with prog := placeSlots s.prog s.pc.toNat p, pc := (s.pc.toNat : Int), st := .running }

end Sys2Proof.Machine
end

