-- ==== Sys2Proof/Machine/Step.lean ====
section
/-! DEFINITION. One step of the machine. -/

namespace Sys2Proof.Machine

/-- One step (10_state.md R35): while the run is on, the instruction at `pc` is fetched, decoded and executed; when it is
over, no further step exists. -/
def step (s : State) : Host.Outcome State Fault Refusal :=
  match s.st with
  | .running =>
    match fetch s with
    | .ok i => exec i s
    | .error f => raise f
  | .exited _ => .refused .runOver
  | .faulted _ => .refused .runOver

/-- `s` with the instruction of the low `nbits` bits of `w` stored where `step` fetches its next instruction. -/
def State.withFetchWord (s : State) (nbits w : Nat) : State :=
  placeNext s (slotsOfTableWord s.plat.endian nbits w)

end Sys2Proof.Machine
end

