-- ==== Sys2Proof/Safety.lean ====
section
/-! DEFINITION. The words the statements use: what an instruction reads, writes and accesses, the state that records a
fault, runs, safe runs, and the invariant of the machine. -/

namespace Sys2Proof.Machine

/-! ### What an instruction reads, writes and accesses -/

/-- The registers an instruction reads, in the order 60_exceptions.md R244 gives (`dst_reg`, `src_reg`, then R0);
`BPF_EXIT` reads R0 where the call stack is empty (42_jump.md R174). -/
def readsOf (cs : List Frame) : Instr → List Reg
  | .add64K dst _ | .sub64K dst _ | .mul64K dst _ | .div64K dst _ | .sdiv64K dst _ | .or64K dst _
    | .and64K dst _ | .lsh64K dst _ | .rsh64K dst _ | .mod64K dst _ | .smod64K dst _ | .xor64K dst _
    | .arsh64K dst _ | .neg64 dst | .add32K dst _ | .sub32K dst _ | .mul32K dst _ | .div32K dst _
    | .sdiv32K dst _ | .or32K dst _ | .and32K dst _ | .lsh32K dst _ | .rsh32K dst _ | .mod32K dst _
    | .smod32K dst _ | .xor32K dst _ | .arsh32K dst _ | .neg32 dst | .toLe16 dst | .toLe32 dst | .toLe64 dst
    | .toBe16 dst | .toBe32 dst | .toBe64 dst | .bswap16 dst | .bswap32 dst | .bswap64 dst | .jeq64K dst _ _
    | .jgt64K dst _ _ | .jge64K dst _ _ | .jset64K dst _ _ | .jne64K dst _ _ | .jsgt64K dst _ _
    | .jsge64K dst _ _ | .jlt64K dst _ _ | .jle64K dst _ _ | .jslt64K dst _ _ | .jsle64K dst _ _
    | .jeq32K dst _ _ | .jgt32K dst _ _ | .jge32K dst _ _ | .jset32K dst _ _ | .jne32K dst _ _
    | .jsgt32K dst _ _ | .jsge32K dst _ _ | .jlt32K dst _ _ | .jle32K dst _ _ | .jslt32K dst _ _
    | .jsle32K dst _ _ | .stW dst _ _ | .stH dst _ _ | .stB dst _ _ | .stDW dst _ _ => [dst]
  | .add64X dst src | .sub64X dst src | .mul64X dst src | .div64X dst src | .sdiv64X dst src | .or64X dst src
    | .and64X dst src | .lsh64X dst src | .rsh64X dst src | .mod64X dst src | .smod64X dst src | .xor64X dst src
    | .arsh64X dst src | .add32X dst src | .sub32X dst src | .mul32X dst src | .div32X dst src
    | .sdiv32X dst src | .or32X dst src | .and32X dst src | .lsh32X dst src | .rsh32X dst src | .mod32X dst src
    | .smod32X dst src | .xor32X dst src | .arsh32X dst src | .jeq64X dst src _ | .jgt64X dst src _
    | .jge64X dst src _ | .jset64X dst src _ | .jne64X dst src _ | .jsgt64X dst src _ | .jsge64X dst src _
    | .jlt64X dst src _ | .jle64X dst src _ | .jslt64X dst src _ | .jsle64X dst src _ | .jeq32X dst src _
    | .jgt32X dst src _ | .jge32X dst src _ | .jset32X dst src _ | .jne32X dst src _ | .jsgt32X dst src _
    | .jsge32X dst src _ | .jlt32X dst src _ | .jle32X dst src _ | .jslt32X dst src _ | .jsle32X dst src _
    | .stxW dst src _ | .stxH dst src _ | .stxB dst src _ | .stxDW dst src _ | .atomicAdd32 dst src _
    | .fetchAdd32 dst src _ | .atomicOr32 dst src _ | .fetchOr32 dst src _ | .atomicAnd32 dst src _
    | .fetchAnd32 dst src _ | .atomicXor32 dst src _ | .fetchXor32 dst src _ | .xchg32 dst src _
    | .atomicAdd64 dst src _ | .fetchAdd64 dst src _ | .atomicOr64 dst src _ | .fetchOr64 dst src _
    | .atomicAnd64 dst src _ | .fetchAnd64 dst src _ | .atomicXor64 dst src _ | .fetchXor64 dst src _
    | .xchg64 dst src _ => [dst, src]
  | .mov64X _ src | .movsx8to64 _ src | .movsx16to64 _ src | .movsx32to64 _ src | .mov32X _ src
    | .movsx8to32 _ src | .movsx16to32 _ src | .ldxW _ src _ | .ldxH _ src _ | .ldxB _ src _ | .ldxDW _ src _
    | .ldxsW _ src _ | .ldxsH _ src _ | .ldxsB _ src _ => [src]
  | .cmpxchg32 dst src _ | .cmpxchg64 dst src _ => [dst, src, .r0]
  | .exit => if cs.isEmpty then [.r0] else []
  | .mov64K _ _ | .mov32K _ _ | .ja _ | .ja32 _ | .callHelper _ | .callLocal _ | .callBtf _ | .ldImm64 _ _ _
    | .ldMapFd _ _ | .ldMapFdVal _ _ _ | .ldVarAddr _ _ | .ldCodeAddr _ _ | .ldMapIdx _ _ | .ldMapIdxVal _ _ _
    | .ldAbsW _ _ _ _ | .ldAbsH _ _ _ _ | .ldAbsB _ _ _ _ | .ldAbsDW _ _ _ _ | .ldIndW _ _ _ _ | .ldIndH _ _ _ _
    | .ldIndB _ _ _ _ | .ldIndDW _ _ _ _ => []

/-- The registers an instruction may write. -/
def writesOf : Instr → List Reg
  | .add64K dst _ | .add64X dst _ | .sub64K dst _ | .sub64X dst _ | .mul64K dst _ | .mul64X dst _
    | .div64K dst _ | .div64X dst _ | .sdiv64K dst _ | .sdiv64X dst _ | .or64K dst _ | .or64X dst _
    | .and64K dst _ | .and64X dst _ | .lsh64K dst _ | .lsh64X dst _ | .rsh64K dst _ | .rsh64X dst _
    | .mod64K dst _ | .mod64X dst _ | .smod64K dst _ | .smod64X dst _ | .xor64K dst _ | .xor64X dst _
    | .arsh64K dst _ | .arsh64X dst _ | .neg64 dst | .mov64K dst _ | .mov64X dst _ | .movsx8to64 dst _
    | .movsx16to64 dst _ | .movsx32to64 dst _ | .add32K dst _ | .add32X dst _ | .sub32K dst _ | .sub32X dst _
    | .mul32K dst _ | .mul32X dst _ | .div32K dst _ | .div32X dst _ | .sdiv32K dst _ | .sdiv32X dst _
    | .or32K dst _ | .or32X dst _ | .and32K dst _ | .and32X dst _ | .lsh32K dst _ | .lsh32X dst _
    | .rsh32K dst _ | .rsh32X dst _ | .mod32K dst _ | .mod32X dst _ | .smod32K dst _ | .smod32X dst _
    | .xor32K dst _ | .xor32X dst _ | .arsh32K dst _ | .arsh32X dst _ | .neg32 dst | .mov32K dst _
    | .mov32X dst _ | .movsx8to32 dst _ | .movsx16to32 dst _ | .toLe16 dst | .toLe32 dst | .toLe64 dst
    | .toBe16 dst | .toBe32 dst | .toBe64 dst | .bswap16 dst | .bswap32 dst | .bswap64 dst | .ldxW dst _ _
    | .ldxH dst _ _ | .ldxB dst _ _ | .ldxDW dst _ _ | .ldxsW dst _ _ | .ldxsH dst _ _ | .ldxsB dst _ _
    | .ldImm64 dst _ _ | .ldMapFd dst _ | .ldMapFdVal dst _ _ | .ldVarAddr dst _ | .ldCodeAddr dst _
    | .ldMapIdx dst _ | .ldMapIdxVal dst _ _ => [dst]
  | .fetchAdd32 _ src _ | .fetchOr32 _ src _ | .fetchAnd32 _ src _ | .fetchXor32 _ src _ | .xchg32 _ src _
    | .fetchAdd64 _ src _ | .fetchOr64 _ src _ | .fetchAnd64 _ src _ | .fetchXor64 _ src _ | .xchg64 _ src _ => [src]
  | .cmpxchg32 _ _ _ | .cmpxchg64 _ _ _ => [.r0]
  | .callHelper _ | .callBtf _ => [.r0, .r1, .r2, .r3, .r4, .r5]
  | .callLocal _ => [.r6, .r7, .r8, .r9, .r10]
  | .exit => [.r1, .r2, .r3, .r4, .r5, .r6, .r7, .r8, .r9, .r10]
  | .ja _ | .ja32 _ | .jeq64K _ _ _ | .jeq64X _ _ _ | .jgt64K _ _ _ | .jgt64X _ _ _ | .jge64K _ _ _
    | .jge64X _ _ _ | .jset64K _ _ _ | .jset64X _ _ _ | .jne64K _ _ _ | .jne64X _ _ _ | .jsgt64K _ _ _
    | .jsgt64X _ _ _ | .jsge64K _ _ _ | .jsge64X _ _ _ | .jlt64K _ _ _ | .jlt64X _ _ _ | .jle64K _ _ _
    | .jle64X _ _ _ | .jslt64K _ _ _ | .jslt64X _ _ _ | .jsle64K _ _ _ | .jsle64X _ _ _ | .jeq32K _ _ _
    | .jeq32X _ _ _ | .jgt32K _ _ _ | .jgt32X _ _ _ | .jge32K _ _ _ | .jge32X _ _ _ | .jset32K _ _ _
    | .jset32X _ _ _ | .jne32K _ _ _ | .jne32X _ _ _ | .jsgt32K _ _ _ | .jsgt32X _ _ _ | .jsge32K _ _ _
    | .jsge32X _ _ _ | .jlt32K _ _ _ | .jlt32X _ _ _ | .jle32K _ _ _ | .jle32X _ _ _ | .jslt32K _ _ _
    | .jslt32X _ _ _ | .jsle32K _ _ _ | .jsle32X _ _ _ | .stW _ _ _ | .stH _ _ _ | .stB _ _ _ | .stDW _ _ _
    | .stxW _ _ _ | .stxH _ _ _ | .stxB _ _ _ | .stxDW _ _ _ | .atomicAdd32 _ _ _ | .atomicOr32 _ _ _
    | .atomicAnd32 _ _ _ | .atomicXor32 _ _ _ | .atomicAdd64 _ _ _ | .atomicOr64 _ _ _ | .atomicAnd64 _ _ _
    | .atomicXor64 _ _ _ | .ldAbsW _ _ _ _ | .ldAbsH _ _ _ _ | .ldAbsB _ _ _ _ | .ldAbsDW _ _ _ _
    | .ldIndW _ _ _ _ | .ldIndH _ _ _ _ | .ldIndB _ _ _ _ | .ldIndDW _ _ _ _ => []

/-- A memory access: base register, offset, width in bytes and kind. -/
structure Access where
  base : Reg
  off : BitVec 16
  n : Nat
  kind : AccessKind
deriving DecidableEq, Repr

/-- The access of a load, store or atomic instruction (43_load_store.md R180; 44_atomic.md R203). -/
def accessOf : Instr → Option Access
  | .ldxB _ src off | .ldxsB _ src off => some ⟨src, off, 1, .read⟩
  | .ldxH _ src off | .ldxsH _ src off => some ⟨src, off, 2, .read⟩
  | .ldxW _ src off | .ldxsW _ src off => some ⟨src, off, 4, .read⟩
  | .ldxDW _ src off => some ⟨src, off, 8, .read⟩
  | .stB dst off _ | .stxB dst _ off => some ⟨dst, off, 1, .write⟩
  | .stH dst off _ | .stxH dst _ off => some ⟨dst, off, 2, .write⟩
  | .stW dst off _ | .stxW dst _ off => some ⟨dst, off, 4, .write⟩
  | .stDW dst off _ | .stxDW dst _ off => some ⟨dst, off, 8, .write⟩
  | .atomicAdd32 dst _ off | .fetchAdd32 dst _ off | .atomicOr32 dst _ off | .fetchOr32 dst _ off
    | .atomicAnd32 dst _ off | .fetchAnd32 dst _ off | .atomicXor32 dst _ off | .fetchXor32 dst _ off
    | .xchg32 dst _ off | .cmpxchg32 dst _ off => some ⟨dst, off, 4, .atomic⟩
  | .atomicAdd64 dst _ off | .fetchAdd64 dst _ off | .atomicOr64 dst _ off | .fetchOr64 dst _ off
    | .atomicAnd64 dst _ off | .fetchAnd64 dst _ off | .atomicXor64 dst _ off | .fetchXor64 dst _ off
    | .xchg64 dst _ off | .cmpxchg64 dst _ off => some ⟨dst, off, 8, .atomic⟩
  | .add64K _ _ | .add64X _ _ | .sub64K _ _ | .sub64X _ _ | .mul64K _ _ | .mul64X _ _ | .div64K _ _
    | .div64X _ _ | .sdiv64K _ _ | .sdiv64X _ _ | .or64K _ _ | .or64X _ _ | .and64K _ _ | .and64X _ _
    | .lsh64K _ _ | .lsh64X _ _ | .rsh64K _ _ | .rsh64X _ _ | .mod64K _ _ | .mod64X _ _ | .smod64K _ _
    | .smod64X _ _ | .xor64K _ _ | .xor64X _ _ | .arsh64K _ _ | .arsh64X _ _ | .neg64 _ | .mov64K _ _
    | .mov64X _ _ | .movsx8to64 _ _ | .movsx16to64 _ _ | .movsx32to64 _ _ | .add32K _ _ | .add32X _ _
    | .sub32K _ _ | .sub32X _ _ | .mul32K _ _ | .mul32X _ _ | .div32K _ _ | .div32X _ _ | .sdiv32K _ _
    | .sdiv32X _ _ | .or32K _ _ | .or32X _ _ | .and32K _ _ | .and32X _ _ | .lsh32K _ _ | .lsh32X _ _
    | .rsh32K _ _ | .rsh32X _ _ | .mod32K _ _ | .mod32X _ _ | .smod32K _ _ | .smod32X _ _ | .xor32K _ _
    | .xor32X _ _ | .arsh32K _ _ | .arsh32X _ _ | .neg32 _ | .mov32K _ _ | .mov32X _ _ | .movsx8to32 _ _
    | .movsx16to32 _ _ | .toLe16 _ | .toLe32 _ | .toLe64 _ | .toBe16 _ | .toBe32 _ | .toBe64 _ | .bswap16 _
    | .bswap32 _ | .bswap64 _ | .ja _ | .ja32 _ | .jeq64K _ _ _ | .jeq64X _ _ _ | .jgt64K _ _ _ | .jgt64X _ _ _
    | .jge64K _ _ _ | .jge64X _ _ _ | .jset64K _ _ _ | .jset64X _ _ _ | .jne64K _ _ _ | .jne64X _ _ _
    | .jsgt64K _ _ _ | .jsgt64X _ _ _ | .jsge64K _ _ _ | .jsge64X _ _ _ | .jlt64K _ _ _ | .jlt64X _ _ _
    | .jle64K _ _ _ | .jle64X _ _ _ | .jslt64K _ _ _ | .jslt64X _ _ _ | .jsle64K _ _ _ | .jsle64X _ _ _
    | .jeq32K _ _ _ | .jeq32X _ _ _ | .jgt32K _ _ _ | .jgt32X _ _ _ | .jge32K _ _ _ | .jge32X _ _ _
    | .jset32K _ _ _ | .jset32X _ _ _ | .jne32K _ _ _ | .jne32X _ _ _ | .jsgt32K _ _ _ | .jsgt32X _ _ _
    | .jsge32K _ _ _ | .jsge32X _ _ _ | .jlt32K _ _ _ | .jlt32X _ _ _ | .jle32K _ _ _ | .jle32X _ _ _
    | .jslt32K _ _ _ | .jslt32X _ _ _ | .jsle32K _ _ _ | .jsle32X _ _ _ | .callHelper _ | .callLocal _
    | .callBtf _ | .exit | .ldImm64 _ _ _ | .ldMapFd _ _ | .ldMapFdVal _ _ _ | .ldVarAddr _ _ | .ldCodeAddr _ _
    | .ldMapIdx _ _ | .ldMapIdxVal _ _ _ | .ldAbsW _ _ _ _ | .ldAbsH _ _ _ _ | .ldAbsB _ _ _ _
    | .ldAbsDW _ _ _ _ | .ldIndW _ _ _ _ | .ldIndH _ _ _ _ | .ldIndB _ _ _ _ | .ldIndDW _ _ _ _ => none

/-- Whether an instruction is a helper call (42_jump.md R171, R173). -/
def isHelperCall : Instr → Bool
  | .callHelper _ => true
  | .callBtf _ => true
  | _ => false

/-- Whether an instruction may change memory: a store, an atomic operation or a helper call. -/
def mayChangeMemory (i : Instr) : Bool :=
  isHelperCall i || match accessOf i with
    | some a => a.kind != .read
    | none => false

/-- Whether an address is one of the `n` bytes from `ea` up. -/
def inAccess (ea : Word) (n a : Nat) : Prop := ea.toNat ≤ a ∧ a < ea.toNat + n

/-! ### The opcode map -/

/-- The 119 opcodes marked D in 30_encoding.md R79, row by row. -/
def definedOpcodes : List Nat :=
  [0x04, 0x05, 0x06, 0x07, 0x0c, 0x0f] ++
  [0x14, 0x15, 0x16, 0x17, 0x18, 0x1c, 0x1d, 0x1e, 0x1f] ++
  [0x24, 0x25, 0x26, 0x27, 0x2c, 0x2d, 0x2e, 0x2f] ++
  [0x34, 0x35, 0x36, 0x37, 0x3c, 0x3d, 0x3e, 0x3f] ++
  [0x44, 0x45, 0x46, 0x47, 0x4c, 0x4d, 0x4e, 0x4f] ++
  [0x54, 0x55, 0x56, 0x57, 0x5c, 0x5d, 0x5e, 0x5f] ++
  [0x61, 0x62, 0x63, 0x64, 0x65, 0x66, 0x67, 0x69, 0x6a, 0x6b, 0x6c, 0x6d, 0x6e, 0x6f] ++
  [0x71, 0x72, 0x73, 0x74, 0x75, 0x76, 0x77, 0x79, 0x7a, 0x7b, 0x7c, 0x7d, 0x7e, 0x7f] ++
  [0x81, 0x84, 0x85, 0x87, 0x89] ++
  [0x91, 0x94, 0x95, 0x97, 0x9c, 0x9f] ++
  [0xa4, 0xa5, 0xa6, 0xa7, 0xac, 0xad, 0xae, 0xaf] ++
  [0xb4, 0xb5, 0xb6, 0xb7, 0xbc, 0xbd, 0xbe, 0xbf] ++
  [0xc3, 0xc4, 0xc5, 0xc6, 0xc7, 0xcc, 0xcd, 0xce, 0xcf] ++
  [0xd4, 0xd5, 0xd6, 0xd7, 0xdb, 0xdc, 0xdd, 0xde]

/-- The eight opcodes marked L in 30_encoding.md R79. -/
def legacyOpcodes : List Nat := [0x20, 0x28, 0x30, 0x38, 0x40, 0x48, 0x50, 0x58]

/-! ### The encoding tables: one row of a table at a time, for all operands an encoding admits -/

/-- The fields of a first slot, with `next_imm` for a wide instruction, stand for an instruction: the encoder gives these
fields, and the decoder answers the instruction, whatever follows a one-slot one (30_encoding.md R87). -/
def standsFor (f : Fields) (next : Option (BitVec 32)) (i : Instr) : Prop :=
  encodeParts i = (f, next) ∧
    ∀ following, (∀ n, next = some n → following = some (pseudoFields n)) → decodeFields f following = .ok i

/-- The `BPF_K` half of a row of 30_encoding.md R70 with its `offset`: code, source and class make up the opcode (R64). -/
def aluRowK (code : BitVec 8) (offset : BitVec 16) (k64 k32 : Reg → BitVec 32 → Instr) : Prop :=
  ∀ d imm, d ≠ .r10 →
    standsFor ⟨code ||| 0x00#8 ||| 0x07#8, d.toBits, 0#4, offset, imm⟩ none (k64 d imm) ∧
    standsFor ⟨code ||| 0x00#8 ||| 0x04#8, d.toBits, 0#4, offset, imm⟩ none (k32 d imm)

/-- The `BPF_X` entry of a row of 30_encoding.md R70 in one class, `BPF_ALU64` (0x07) or `BPF_ALU` (0x04). -/
def aluX1 (code : BitVec 8) (offset : BitVec 16) (cls : BitVec 8) (x : Reg → Reg → Instr) : Prop :=
  ∀ d r, d ≠ .r10 → standsFor ⟨code ||| 0x08#8 ||| cls, d.toBits, r.toBits, offset, 0#32⟩ none (x d r)

/-- A row of 30_encoding.md R70 with all four opcodes: ALU64 K, ALU64 X, ALU K, ALU X. -/
def aluRow (code : BitVec 8) (offset : BitVec 16) (k64 : Reg → BitVec 32 → Instr) (x64 : Reg → Reg → Instr)
    (k32 : Reg → BitVec 32 → Instr) (x32 : Reg → Reg → Instr) : Prop :=
  aluRowK code offset k64 k32 ∧ aluX1 code offset 0x07#8 x64 ∧ aluX1 code offset 0x04#8 x32

/-- An instruction that uses `dst_reg` alone, its opcode and `imm` given: `BPF_NEG` and `BPF_END` (R70; 41_byteswap.md
R141 to R143). -/
def unaryRow (opcode : BitVec 8) (imm : BitVec 32) (mk : Reg → Instr) : Prop :=
  ∀ d, d ≠ .r10 → standsFor ⟨opcode, d.toBits, 0#4, 0#16, imm⟩ none (mk d)

/-- A row of 30_encoding.md R73 with all four opcodes: JMP K, JMP X, JMP32 K, JMP32 X; `code` is the table's value in
its place in the opcode, bits 7 to 4 (R64). -/
def jumpRow (code : BitVec 8) (k64 : Reg → BitVec 16 → BitVec 32 → Instr) (x64 : Reg → Reg → BitVec 16 → Instr)
    (k32 : Reg → BitVec 16 → BitVec 32 → Instr) (x32 : Reg → Reg → BitVec 16 → Instr) : Prop :=
  ∀ d r offset imm,
    standsFor ⟨code ||| 0x00#8 ||| 0x05#8, d.toBits, 0#4, offset, imm⟩ none (k64 d offset imm) ∧
    standsFor ⟨code ||| 0x08#8 ||| 0x05#8, d.toBits, r.toBits, offset, 0#32⟩ none (x64 d r offset) ∧
    standsFor ⟨code ||| 0x00#8 ||| 0x06#8, d.toBits, 0#4, offset, imm⟩ none (k32 d offset imm) ∧
    standsFor ⟨code ||| 0x08#8 ||| 0x06#8, d.toBits, r.toBits, offset, 0#32⟩ none (x32 d r offset)

/-- A load of 30_encoding.md R75, a mode and a size making up the opcode (R65). -/
def loadRow (mode size : BitVec 8) (mk : Reg → Reg → BitVec 16 → Instr) : Prop :=
  ∀ d r offset, d ≠ .r10 →
    standsFor ⟨mode ||| size ||| 0x01#8, d.toBits, r.toBits, offset, 0#32⟩ none (mk d r offset)

/-- The two stores of one size, of an immediate (30_encoding.md R76) and of a register (R77), mode `BPF_MEM`. -/
def storeRow (size : BitVec 8) (st : Reg → BitVec 16 → BitVec 32 → Instr) (stx : Reg → Reg → BitVec 16 → Instr) : Prop :=
  ∀ d r offset imm,
    standsFor ⟨0x60#8 ||| size ||| 0x02#8, d.toBits, 0#4, offset, imm⟩ none (st d offset imm) ∧
    standsFor ⟨0x60#8 ||| size ||| 0x03#8, d.toBits, r.toBits, offset, 0#32⟩ none (stx d r offset)

/-- A row of the table of atomic operations of 30_encoding.md R77, in 32 and 64 bits; `fetch` says whether the source
register is written, so that R10 is none (10_state.md R24). -/
def atomicRow (imm : BitVec 32) (fetch : Bool) (a32 a64 : Reg → Reg → BitVec 16 → Instr) : Prop :=
  ∀ d r offset, (fetch = true → r ≠ .r10) →
    standsFor ⟨0xc3#8, d.toBits, r.toBits, offset, imm⟩ none (a32 d r offset) ∧
    standsFor ⟨0xdb#8, d.toBits, r.toBits, offset, imm⟩ none (a64 d r offset)

/-- A subtype of opcode 0x18 that uses `next_imm`, with the values it admits (45_imm64_legacy.md R220, R223). -/
def wideRow (subtype : BitVec 4) (admits : BitVec 32 → Prop) (mk : Reg → BitVec 32 → BitVec 32 → Instr) : Prop :=
  ∀ d imm next, d ≠ .r10 → admits next → standsFor ⟨0x18#8, d.toBits, subtype, 0#16, imm⟩ (some next) (mk d imm next)

/-- A subtype of opcode 0x18 that does not use `next_imm`, which is then zero (45_imm64_legacy.md R220). -/
def wideRowZero (subtype : BitVec 4) (mk : Reg → BitVec 32 → Instr) : Prop :=
  ∀ d imm, d ≠ .r10 → standsFor ⟨0x18#8, d.toBits, subtype, 0#16, imm⟩ (some 0#32) (mk d imm)

/-- A legacy packet access opcode, whatever its other fields hold (45_imm64_legacy.md R231; notes/assumptions/15.md). -/
def legacyRow (opcode : BitVec 8) (mk : BitVec 4 → BitVec 4 → BitVec 16 → BitVec 32 → Instr) : Prop :=
  ∀ d r offset imm, standsFor ⟨opcode, d, r, offset, imm⟩ none (mk d r offset imm)

/-! ### States after an instruction -/

/-- The state with register `d` holding `v` and `pc` moved on by `k` slots, all else as it was. -/
def State.wrote (s : State) (d : Reg) (v : Word) (k : Int) : State :=
  { s with regs := s.regs.set d (.word v), pc := s.pc + k }

/-- The state with the low `8 n` bits of `v` stored at `ea` and `pc` moved on by one slot, all else as it was. -/
def State.stored (s : State) (ea : Word) (n v : Nat) : State :=
  { s with mem := memWrite s.plat.endian s.mem ea n v, pc := s.pc + 1 }

/-- The `n` bytes at `ea` as a number (20_memory.md R40). -/
def State.load (s : State) (ea : Word) (n : Nat) : Nat := memRead s.plat.endian s.mem ea n

/-- Whether an access of a kind passes the checks: aligned where that is asked, and admitted (20_memory.md R43, R47). -/
def State.accessOk (s : State) (strict : Bool) (ea : Word) (n : Nat) (kind : AccessKind) : Prop :=
  (strict = true → ea.toNat % n = 0) ∧ memAdmit s.plat ea n kind = true

/-! ### The end of a run -/

/-- The state after an outcome, with the fault recorded in `st` and everything else as it was (60_exceptions.md R241). -/
def State.settle (s : State) : Result → State
  | .next t => t
  | .fault f => s.setStatus (.faulted f)
  | .refused _ => s

/-- The state after `n` steps; a run that is over stays as it is. -/
def State.after (s : State) : Nat → State
  | 0 => s
  | n + 1 => (s.settle (step s)).after n

/-- A safe run: no step of it raises a fault. -/
def State.Safe (s : State) : Prop := ∀ n f, (s.after n).st ≠ .faulted f

/-! ### The invariant -/

/-- Each frame holds, as the caller's R10, the `FrameTop` of the caller's depth (42_jump.md R172; 00_scope.md R5). -/
def framesOk (p : Platform) : List Frame → Bool
  | [] => true
  | f :: rest => decide (f.r10 = .word (frameTop p rest.length)) && framesOk p rest

/-- Each frame returns to a slot after the first, at most one past the last (42_jump.md R172). -/
def returnsOk (len : Nat) (cs : List Frame) : Bool :=
  cs.all fun f => decide (1 ≤ f.ret) && decide (f.ret ≤ (len : Int))

/-- What holds of every state a run reaches: memory has its canonical form, the call stack is at most `MAX_CALL_DEPTH`
deep, R10 is the `FrameTop` of the depth (the program cannot write it, 10_state.md R24), and the frames are as the
calls left them. -/
structure State.Inv (s : State) : Prop where
  memory : memoryWf s.mem = true
  depth : s.cs.length ≤ s.plat.maxCallDepth
  frame : s.regs.r10 = .word (frameTop s.plat s.cs.length)
  saved : framesOk s.plat s.cs = true
  returns : returnsOk s.prog.length s.cs = true

end Sys2Proof.Machine
end

