-- ==== Sys2Proof/Certificates/Slice0/Obligations.lean ====
section
/-! DEFINITION. The statements for the provers, in the order of OBLIGATIONS.json. -/

open Sys2Proof Sys2Proof.Machine

/-- A launch of any platform gives the entry state: pc 0, R1 = CTX, R10 = FP0, R2 to R5 the further entry values the
launch lists for them in this order (log entry 19) and otherwise unwritten, every other register unwritten, the call
stack empty, the run status Running, memory and program as the launch supplies them. Reset is the launch of the
default platform with no further entry value, no program and no memory listed. The entry state is the spec's decision
D4. The default platform is the model's choice, R5 leaving each parameter open: little-endian is log entry 1,
STRICT_ALIGN log entry 8, STACK_SIZE = 512 and MAX_CALL_DEPTH = 7 log entry 6, CTX = 0x8000 and FP0 = 0x20000 log
entry 4, the empty program log entry 12, drawing on unwritten reads log entry 3. -/
def Obligations.ResetIsTheEntryState : Prop :=
  (∀ (p : Platform) (prog : List Slot) (mem : Memory),
    let s := State.launch p prog mem
    s.pc = 0 ∧ s.cs = [] ∧ s.st = .running ∧ s.mem = mem ∧ s.prog = prog ∧ s.plat = p ∧
      s.regs.r1 = .word p.ctx ∧ s.regs.r10 = .word p.fp0 ∧
      (∀ r ∈ [Reg.r0, .r6, .r7, .r8, .r9], s.regs.get r = .unwritten) ∧
      ∀ (k : Nat) (r : Reg), [Reg.r2, .r3, .r4, .r5][k]? = some r →
        s.regs.get r = match p.entryArgs[k]? with | some v => .word v | none => .unwritten) ∧
  State.reset = State.launch Config.defaultPlatform [] [] ∧ State.reset.plat.entryArgs = [] ∧
  State.reset.plat.endian = .little ∧ State.reset.plat.strictAlign = true ∧ State.reset.plat.stackSize = 512 ∧
  State.reset.plat.maxCallDepth = 7 ∧ State.reset.plat.ctx = 0x8000#64 ∧ State.reset.plat.fp0 = 0x20000#64 ∧
  State.reset.plat.unwrittenRead = .draw

/-- State.Inv holds of State.reset and of every launch with memory in canonical form: memory strictly rising and below
2^64, the call stack within MAX_CALL_DEPTH, R10 = FrameTop of the depth, frames as calls leave them. The call stack's
discipline is the spec's decision D22; the list form of memory is the model's own, log entry 5. -/
def Obligations.InvariantHoldsAtReset : Prop :=
  State.reset.Inv ∧
    ∀ (p : Platform) (prog : List Slot) (mem : Memory), memoryWf mem = true → (State.launch p prog mem).Inv

/-- For every state s with the invariant, whatever instruction it runs: if step s answers next t, then t has the invariant
(the memory list canonical, R10 at FrameTop of the depth, the depth within MAX_CALL_DEPTH, each frame with its
FrameTop and a return slot in 1 .. PROG_LEN), and the call stack is as it was, or has one new frame holding pc + 1 and
R6 to R10 as they were in s, or has lost its newest frame, with pc at that frame's return slot and R6 to R10 as it
saved them. So no program writes R10 (decision D6), nests deeper than MAX_CALL_DEPTH, or changes a frame that stays on
the call stack (decision D22). The list form of memory, which every store keeps canonical, is the model's own (log
entry 5). -/
def Obligations.EveryStepKeepsTheInvariant : Prop :=
  ∀ s t : State, s.Inv → step s = .next t →
    t.Inv ∧ (t.cs = s.cs ∨
      t.cs = ⟨s.pc + 1, s.regs.r6, s.regs.r7, s.regs.r8, s.regs.r9, s.regs.r10⟩ :: s.cs ∨
      ∃ f : Frame, s.cs = f :: t.cs ∧ t.pc = f.ret ∧ t.regs.r6 = f.r6 ∧ t.regs.r7 = f.r7 ∧ t.regs.r8 = f.r8 ∧
        t.regs.r9 = f.r9 ∧ t.regs.r10 = f.r10)

/-- For every byte order and every well-formed instruction, with every operand at every value: the encoding is one slot,
or two for a wide instruction; the decoder given these slots answers the instruction; and for a one-slot instruction
it does so whatever slot follows. -/
def Obligations.DecodeOfEncodeIsTheInstruction : Prop :=
  ∀ (e : Endian) (i : Instr), i.wellFormed = true →
    (∃ a, encode e i = [a] ∧ ∀ next, decode e a next = .ok i) ∨
      (∃ a b, encode e i = [a, b] ∧ decode e a (some b) = .ok i)

/-- For every byte order and any slots: if the decoder answers an instruction, it is well formed and encodes to the very
slot it was read from, with the second slot of a wide instruction. So no bit of an accepted encoding is ignored and no
two encodings mean the same instruction. That non-zero unused fields, register numbers above 10 and R10 as a
destination are rejected are decisions D6 to D8 and D37 (log entry 16). -/
def Obligations.EncodeOfDecodeIsTheWord : Prop :=
  ∀ (e : Endian) (a : Slot) (next : Option Slot) (i : Instr), decode e a next = .ok i →
    i.wellFormed = true ∧ (encode e i = [a] ∨ ∃ b, next = some b ∧ encode e i = [a, b])

/-- In little-endian BPF byte 1 holds src_reg above dst_reg and offset and imm have their least significant byte first; in
big-endian BPF byte 1 holds dst_reg above src_reg and offset and imm have their most significant byte first; the
opcode is byte 0 in both. Reading the fields of the slot gives the fields back. Read as one little-endian 64-bit
number, the eight bytes are the canonical word. The source's example bytes are checked in both orders. -/
def Obligations.ByteLayoutOfASlot : Prop :=
  (∀ f : Fields, slotOf .little f = ⟨f.opcode, f.src ++ f.dst, f.offset.extractLsb' 0 8, f.offset.extractLsb' 8 8,
      f.imm.extractLsb' 0 8, f.imm.extractLsb' 8 8, f.imm.extractLsb' 16 8, f.imm.extractLsb' 24 8⟩) ∧
  (∀ f : Fields, slotOf .big f = ⟨f.opcode, f.dst ++ f.src, f.offset.extractLsb' 8 8, f.offset.extractLsb' 0 8,
      f.imm.extractLsb' 24 8, f.imm.extractLsb' 16 8, f.imm.extractLsb' 8 8, f.imm.extractLsb' 0 8⟩) ∧
  (∀ (e : Endian) (f : Fields), fieldsOf e (slotOf e f) = f) ∧
  (∀ w : BitVec 64, fieldsOf .little ⟨w.extractLsb' 0 8, w.extractLsb' 8 8, w.extractLsb' 16 8, w.extractLsb' 24 8,
      w.extractLsb' 32 8, w.extractLsb' 40 8, w.extractLsb' 48 8, w.extractLsb' 56 8⟩ = fieldsOfWord w.toNat) ∧
  fieldsOf .little ⟨0x07#8, 0x01#8, 0#8, 0#8, 0x44#8, 0x33#8, 0x22#8, 0x11#8⟩ = ⟨0x07#8, 1#4, 0#4, 0#16, 0x11223344#32⟩ ∧
  fieldsOf .big ⟨0x07#8, 0x10#8, 0#8, 0#8, 0x11#8, 0x22#8, 0x33#8, 0x44#8⟩ = ⟨0x07#8, 1#4, 0#4, 0#16, 0x11223344#32⟩

/-- One word of each family, byte by byte from the spec's vectors: A01, A29, S04, J40 and J05, C01, exit, M13, M22, T21,
W14 (both slots) and the legacy opcode 0x20, and A03 in big-endian BPF. A register field of n is Rn, for n from 0 to
10. Then the tables, row by row, for each of the 172 instructions: the opcode (code, source and class, or mode, size
and class, as R64, R65, R70, R73 and R75 to R78 give them), the selector in offset, src_reg or imm, zero in every
unused field, and next_imm for the wide instructions are what the encoder gives, and the decoder answers that very
instruction for these fields with every operand the encoding admits (no R10 as a written register, which decision D6
refuses; bit 31 of next_imm clear in the map-value subtypes, decision D28). That an unused field is zero is decision
D7, next_imm = 0 in the subtypes without it decision D37, the opcodes of the instructions without a source operand
decisions D18, D19 and D21. That the decoder answers an instruction for the eight legacy opcodes is the model's
choice, log entry 15: the spec raises LegacyInstruction at decode, and here the fault is their meaning. -/
def Obligations.WordsOfTheSpecDecode : Prop :=
  let z : Slot := ⟨0#8, 0#8, 0#8, 0#8, 0#8, 0#8, 0#8, 0#8⟩
  decode .little ⟨0x0f#8, 0x21#8, 0#8, 0#8, 0#8, 0#8, 0#8, 0#8⟩ none = .ok (.add64X .r1 .r2) ∧
  decode .little ⟨0x3f#8, 0x21#8, 1#8, 0#8, 0#8, 0#8, 0#8, 0#8⟩ none = .ok (.sdiv64X .r1 .r2) ∧
  decode .little ⟨0xdc#8, 0x01#8, 0#8, 0#8, 0x10#8, 0#8, 0#8, 0#8⟩ none = .ok (.toBe16 .r1) ∧
  decode .little ⟨0x7e#8, 0x21#8, 5#8, 0#8, 0#8, 0#8, 0#8, 0#8⟩ none = .ok (.jsge32X .r1 .r2 5#16) ∧
  decode .little ⟨0x06#8, 0#8, 0#8, 0#8, 5#8, 0#8, 0#8, 0#8⟩ none = .ok (.ja32 5#32) ∧
  decode .little ⟨0x85#8, 0x10#8, 0#8, 0#8, 2#8, 0#8, 0#8, 0#8⟩ none = .ok (.callLocal 2#32) ∧
  decode .little ⟨0x95#8, 0#8, 0#8, 0#8, 0#8, 0#8, 0#8, 0#8⟩ none = .ok .exit ∧
  decode .little ⟨0x89#8, 0x12#8, 2#8, 0#8, 0#8, 0#8, 0#8, 0#8⟩ none = .ok (.ldxsH .r2 .r1 2#16) ∧
  decode .little ⟨0x62#8, 0x01#8, 0#8, 0#8, 0xfe#8, 0xff#8, 0xff#8, 0xff#8⟩ none = .ok (.stW .r1 0#16 0xfffffffe#32) ∧
  decode .little ⟨0xc3#8, 0x21#8, 0#8, 0#8, 0xf1#8, 0#8, 0#8, 0#8⟩ none = .ok (.cmpxchg32 .r1 .r2 0#16) ∧
  decode .little ⟨0x18#8, 0x21#8, 0#8, 0#8, 5#8, 0#8, 0#8, 0#8⟩ (some { z with b4 := 0x10#8 }) =
    .ok (.ldMapFdVal .r1 5#32 0x10#32) ∧
  decode .little ⟨0x20#8, 0#8, 0#8, 0#8, 0#8, 0#8, 0#8, 0#8⟩ none = .ok (.ldAbsW 0#4 0#4 0#16 0#32) ∧
  decode .big ⟨0x07#8, 0x10#8, 0#8, 0#8, 0xff#8, 0xff#8, 0xff#8, 0xff#8⟩ none = .ok (.add64K .r1 0xffffffff#32) ∧
  [Reg.r0, .r1, .r2, .r3, .r4, .r5, .r6, .r7, .r8, .r9, .r10].map Reg.toBits =
    [0#4, 1#4, 2#4, 3#4, 4#4, 5#4, 6#4, 7#4, 8#4, 9#4, 10#4] ∧
  aluRow 0x00#8 0#16 .add64K .add64X .add32K .add32X ∧ aluRow 0x10#8 0#16 .sub64K .sub64X .sub32K .sub32X ∧
  aluRow 0x20#8 0#16 .mul64K .mul64X .mul32K .mul32X ∧ aluRow 0x30#8 0#16 .div64K .div64X .div32K .div32X ∧
  aluRow 0x30#8 1#16 .sdiv64K .sdiv64X .sdiv32K .sdiv32X ∧ aluRow 0x40#8 0#16 .or64K .or64X .or32K .or32X ∧
  aluRow 0x50#8 0#16 .and64K .and64X .and32K .and32X ∧ aluRow 0x60#8 0#16 .lsh64K .lsh64X .lsh32K .lsh32X ∧
  aluRow 0x70#8 0#16 .rsh64K .rsh64X .rsh32K .rsh32X ∧ aluRow 0x90#8 0#16 .mod64K .mod64X .mod32K .mod32X ∧
  aluRow 0x90#8 1#16 .smod64K .smod64X .smod32K .smod32X ∧ aluRow 0xa0#8 0#16 .xor64K .xor64X .xor32K .xor32X ∧
  aluRow 0xb0#8 0#16 .mov64K .mov64X .mov32K .mov32X ∧ aluRow 0xc0#8 0#16 .arsh64K .arsh64X .arsh32K .arsh32X ∧
  aluX1 0xb0#8 8#16 0x07#8 .movsx8to64 ∧ aluX1 0xb0#8 16#16 0x07#8 .movsx16to64 ∧
  aluX1 0xb0#8 32#16 0x07#8 .movsx32to64 ∧ aluX1 0xb0#8 8#16 0x04#8 .movsx8to32 ∧
  aluX1 0xb0#8 16#16 0x04#8 .movsx16to32 ∧ unaryRow 0x87#8 0#32 .neg64 ∧ unaryRow 0x84#8 0#32 .neg32 ∧
  unaryRow 0xd4#8 16#32 .toLe16 ∧ unaryRow 0xdc#8 16#32 .toBe16 ∧ unaryRow 0xd7#8 16#32 .bswap16 ∧
  unaryRow 0xd4#8 32#32 .toLe32 ∧ unaryRow 0xdc#8 32#32 .toBe32 ∧ unaryRow 0xd7#8 32#32 .bswap32 ∧
  unaryRow 0xd4#8 64#32 .toLe64 ∧ unaryRow 0xdc#8 64#32 .toBe64 ∧ unaryRow 0xd7#8 64#32 .bswap64 ∧
  (∀ offset, standsFor ⟨0x05#8, 0#4, 0#4, offset, 0#32⟩ none (.ja offset)) ∧
  (∀ imm, standsFor ⟨0x06#8, 0#4, 0#4, 0#16, imm⟩ none (.ja32 imm)) ∧
  jumpRow 0x10#8 .jeq64K .jeq64X .jeq32K .jeq32X ∧ jumpRow 0x20#8 .jgt64K .jgt64X .jgt32K .jgt32X ∧
  jumpRow 0x30#8 .jge64K .jge64X .jge32K .jge32X ∧ jumpRow 0x40#8 .jset64K .jset64X .jset32K .jset32X ∧
  jumpRow 0x50#8 .jne64K .jne64X .jne32K .jne32X ∧ jumpRow 0x60#8 .jsgt64K .jsgt64X .jsgt32K .jsgt32X ∧
  jumpRow 0x70#8 .jsge64K .jsge64X .jsge32K .jsge32X ∧ jumpRow 0xa0#8 .jlt64K .jlt64X .jlt32K .jlt32X ∧
  jumpRow 0xb0#8 .jle64K .jle64X .jle32K .jle32X ∧ jumpRow 0xc0#8 .jslt64K .jslt64X .jslt32K .jslt32X ∧
  jumpRow 0xd0#8 .jsle64K .jsle64X .jsle32K .jsle32X ∧
  (∀ imm, standsFor ⟨0x85#8, 0#4, 0#4, 0#16, imm⟩ none (.callHelper imm)) ∧
  (∀ imm, standsFor ⟨0x85#8, 0#4, 1#4, 0#16, imm⟩ none (.callLocal imm)) ∧
  (∀ imm, standsFor ⟨0x85#8, 0#4, 2#4, 0#16, imm⟩ none (.callBtf imm)) ∧
  standsFor ⟨0x95#8, 0#4, 0#4, 0#16, 0#32⟩ none .exit ∧ loadRow 0x60#8 0x00#8 .ldxW ∧ loadRow 0x60#8 0x08#8 .ldxH ∧
  loadRow 0x60#8 0x10#8 .ldxB ∧ loadRow 0x60#8 0x18#8 .ldxDW ∧ loadRow 0x80#8 0x00#8 .ldxsW ∧
  loadRow 0x80#8 0x08#8 .ldxsH ∧ loadRow 0x80#8 0x10#8 .ldxsB ∧ storeRow 0x00#8 .stW .stxW ∧
  storeRow 0x08#8 .stH .stxH ∧ storeRow 0x10#8 .stB .stxB ∧ storeRow 0x18#8 .stDW .stxDW ∧
  atomicRow 0x00#32 false .atomicAdd32 .atomicAdd64 ∧ atomicRow 0x01#32 true .fetchAdd32 .fetchAdd64 ∧
  atomicRow 0x40#32 false .atomicOr32 .atomicOr64 ∧ atomicRow 0x41#32 true .fetchOr32 .fetchOr64 ∧
  atomicRow 0x50#32 false .atomicAnd32 .atomicAnd64 ∧ atomicRow 0x51#32 true .fetchAnd32 .fetchAnd64 ∧
  atomicRow 0xa0#32 false .atomicXor32 .atomicXor64 ∧ atomicRow 0xa1#32 true .fetchXor32 .fetchXor64 ∧
  atomicRow 0xe1#32 true .xchg32 .xchg64 ∧ atomicRow 0xf1#32 false .cmpxchg32 .cmpxchg64 ∧
  wideRow 0#4 (fun _ => True) .ldImm64 ∧ wideRowZero 1#4 .ldMapFd ∧
  wideRow 2#4 (fun n => n.toNat < 2 ^ 31) .ldMapFdVal ∧ wideRowZero 3#4 .ldVarAddr ∧ wideRowZero 4#4 .ldCodeAddr ∧
  wideRowZero 5#4 .ldMapIdx ∧ wideRow 6#4 (fun n => n.toNat < 2 ^ 31) .ldMapIdxVal ∧ legacyRow 0x20#8 .ldAbsW ∧
  legacyRow 0x28#8 .ldAbsH ∧ legacyRow 0x30#8 .ldAbsB ∧ legacyRow 0x38#8 .ldAbsDW ∧ legacyRow 0x40#8 .ldIndW ∧
  legacyRow 0x48#8 .ldIndH ∧ legacyRow 0x50#8 .ldIndB ∧ legacyRow 0x58#8 .ldIndDW

/-- There are 119 defined and 8 legacy opcodes, all different. Whatever the other fields and the next slot hold, the
decoder answers undefinedOpcode exactly for the opcodes outside both lists, and a legacy opcode decodes whatever its
other fields are (log entry 15: its fault stands in the meaning). The map is marked derived by the spec; that a dot is
rejected is decision D9. -/
def Obligations.UndefinedOpcodesAreExactlyTheDots : Prop :=
  definedOpcodes.length = 119 ∧ legacyOpcodes.length = 8 ∧ (definedOpcodes ++ legacyOpcodes).Nodup ∧
  (∀ (f : Fields) (next : Option Fields),
    decodeFields f next = .error .undefinedOpcode ↔ f.opcode.toNat ∉ definedOpcodes ++ legacyOpcodes) ∧
  ∀ (f : Fields) (next : Option Fields), f.opcode.toNat ∈ legacyOpcodes → ∃ i, decodeFields f next = .ok i

/-- In class BPF_LDX (opcode bits 2:0 = 1) the decoder answers a regular load for 0x61, 0x69, 0x71, 0x79 and a sign-
extension load for 0x81, 0x89, 0x91, of the width of the table, and rejects every other opcode, 0x99 among them, as
undefined. In class BPF_ST (2) it answers the four immediate stores for 0x62, 0x6a, 0x72, 0x7a and rejects every other
opcode. Each of them is accepted, with the registers, offset and imm of its fields, whatever slot follows, where the
unused field is zero, the register fields are 0 to 10 and a load does not write R10. (That a load of R10 and other
fields are refused is decisions D6 to D8, of which this says nothing.) -/
def Obligations.LoadAndStoreOpcodes : Prop :=
  (∀ (f : Fields) (next : Option Fields),
    (f.opcode.toNat % 8 = 1 → f.opcode.toNat ∉ [0x61, 0x69, 0x71, 0x79, 0x81, 0x89, 0x91] →
      decodeFields f next = .error .undefinedOpcode) ∧
    (f.opcode.toNat % 8 = 2 → f.opcode.toNat ∉ [0x62, 0x6a, 0x72, 0x7a] →
      decodeFields f next = .error .undefinedOpcode) ∧
    ∀ i, decodeFields f next = .ok i →
      (f.opcode = 0x61#8 → ∃ d r o, i = .ldxW d r o) ∧ (f.opcode = 0x69#8 → ∃ d r o, i = .ldxH d r o) ∧
      (f.opcode = 0x71#8 → ∃ d r o, i = .ldxB d r o) ∧ (f.opcode = 0x79#8 → ∃ d r o, i = .ldxDW d r o) ∧
      (f.opcode = 0x81#8 → ∃ d r o, i = .ldxsW d r o) ∧ (f.opcode = 0x89#8 → ∃ d r o, i = .ldxsH d r o) ∧
      (f.opcode = 0x91#8 → ∃ d r o, i = .ldxsB d r o) ∧
      (f.opcode = 0x62#8 → ∃ d o k, i = .stW d o k) ∧ (f.opcode = 0x6a#8 → ∃ d o k, i = .stH d o k) ∧
      (f.opcode = 0x72#8 → ∃ d o k, i = .stB d o k) ∧ (f.opcode = 0x7a#8 → ∃ d o k, i = .stDW d o k)) ∧
  ∀ (next : Option Fields) (d r : Reg) (o : BitVec 16) (k : BitVec 32),
    (d ≠ .r10 →
      decodeFields ⟨0x61#8, d.toBits, r.toBits, o, 0#32⟩ next = .ok (.ldxW d r o) ∧
      decodeFields ⟨0x69#8, d.toBits, r.toBits, o, 0#32⟩ next = .ok (.ldxH d r o) ∧
      decodeFields ⟨0x71#8, d.toBits, r.toBits, o, 0#32⟩ next = .ok (.ldxB d r o) ∧
      decodeFields ⟨0x79#8, d.toBits, r.toBits, o, 0#32⟩ next = .ok (.ldxDW d r o) ∧
      decodeFields ⟨0x81#8, d.toBits, r.toBits, o, 0#32⟩ next = .ok (.ldxsW d r o) ∧
      decodeFields ⟨0x89#8, d.toBits, r.toBits, o, 0#32⟩ next = .ok (.ldxsH d r o) ∧
      decodeFields ⟨0x91#8, d.toBits, r.toBits, o, 0#32⟩ next = .ok (.ldxsB d r o)) ∧
    decodeFields ⟨0x62#8, d.toBits, 0#4, o, k⟩ next = .ok (.stW d o k) ∧
    decodeFields ⟨0x6a#8, d.toBits, 0#4, o, k⟩ next = .ok (.stH d o k) ∧
    decodeFields ⟨0x72#8, d.toBits, 0#4, o, k⟩ next = .ok (.stB d o k) ∧
    decodeFields ⟨0x7a#8, d.toBits, 0#4, o, k⟩ next = .ok (.stDW d o k)

/-- In class BPF_STX (opcode bits 2:0 = 3) the decoder answers the register stores for 0x63, 0x6b, 0x73, 0x7b; for 0xc3
(32-bit) and 0xdb (64-bit) the operation the table gives for imm, and any other imm is rejected; every other opcode,
0xcb and 0xd3 among them, is undefined. Each of them is accepted, with the registers and offset of its fields,
whatever slot follows, where a register store's imm is zero, the register fields are 0 to 10 and an operation that
writes src does not name R10 there. (That it is refused otherwise is decisions D6 to D8, of which this says nothing.) -/
def Obligations.AtomicAndRegisterStoreOpcodes : Prop :=
  (∀ (f : Fields) (next : Option Fields),
    (f.opcode.toNat % 8 = 3 → f.opcode.toNat ∉ [0x63, 0x6b, 0x73, 0x7b, 0xc3, 0xdb] →
      decodeFields f next = .error .undefinedOpcode) ∧
    (f.opcode = 0xc3#8 ∨ f.opcode = 0xdb#8 →
      f.imm.toNat ∉ [0x00, 0x01, 0x40, 0x41, 0x50, 0x51, 0xa0, 0xa1, 0xe1, 0xf1] →
      decodeFields f next = .error .undefinedSelector) ∧
    ∀ i, decodeFields f next = .ok i →
      (f.opcode = 0x63#8 → ∃ d r o, i = .stxW d r o) ∧ (f.opcode = 0x6b#8 → ∃ d r o, i = .stxH d r o) ∧
      (f.opcode = 0x73#8 → ∃ d r o, i = .stxB d r o) ∧ (f.opcode = 0x7b#8 → ∃ d r o, i = .stxDW d r o) ∧
      (f.opcode = 0xc3#8 →
        (f.imm = 0x00#32 → ∃ d r o, i = .atomicAdd32 d r o) ∧
        (f.imm = 0x01#32 → ∃ d r o, i = .fetchAdd32 d r o) ∧
        (f.imm = 0x40#32 → ∃ d r o, i = .atomicOr32 d r o) ∧
        (f.imm = 0x41#32 → ∃ d r o, i = .fetchOr32 d r o) ∧
        (f.imm = 0x50#32 → ∃ d r o, i = .atomicAnd32 d r o) ∧
        (f.imm = 0x51#32 → ∃ d r o, i = .fetchAnd32 d r o) ∧
        (f.imm = 0xa0#32 → ∃ d r o, i = .atomicXor32 d r o) ∧
        (f.imm = 0xa1#32 → ∃ d r o, i = .fetchXor32 d r o) ∧
        (f.imm = 0xe1#32 → ∃ d r o, i = .xchg32 d r o) ∧
        (f.imm = 0xf1#32 → ∃ d r o, i = .cmpxchg32 d r o)) ∧
      (f.opcode = 0xdb#8 →
        (f.imm = 0x00#32 → ∃ d r o, i = .atomicAdd64 d r o) ∧
        (f.imm = 0x01#32 → ∃ d r o, i = .fetchAdd64 d r o) ∧
        (f.imm = 0x40#32 → ∃ d r o, i = .atomicOr64 d r o) ∧
        (f.imm = 0x41#32 → ∃ d r o, i = .fetchOr64 d r o) ∧
        (f.imm = 0x50#32 → ∃ d r o, i = .atomicAnd64 d r o) ∧
        (f.imm = 0x51#32 → ∃ d r o, i = .fetchAnd64 d r o) ∧
        (f.imm = 0xa0#32 → ∃ d r o, i = .atomicXor64 d r o) ∧
        (f.imm = 0xa1#32 → ∃ d r o, i = .fetchXor64 d r o) ∧
        (f.imm = 0xe1#32 → ∃ d r o, i = .xchg64 d r o) ∧
        (f.imm = 0xf1#32 → ∃ d r o, i = .cmpxchg64 d r o))) ∧
  ∀ (next : Option Fields) (d r : Reg) (o : BitVec 16),
    decodeFields ⟨0x63#8, d.toBits, r.toBits, o, 0#32⟩ next = .ok (.stxW d r o) ∧
    decodeFields ⟨0x6b#8, d.toBits, r.toBits, o, 0#32⟩ next = .ok (.stxH d r o) ∧
    decodeFields ⟨0x73#8, d.toBits, r.toBits, o, 0#32⟩ next = .ok (.stxB d r o) ∧
    decodeFields ⟨0x7b#8, d.toBits, r.toBits, o, 0#32⟩ next = .ok (.stxDW d r o) ∧
    decodeFields ⟨0xc3#8, d.toBits, r.toBits, o, 0x00#32⟩ next = .ok (.atomicAdd32 d r o) ∧
    decodeFields ⟨0xc3#8, d.toBits, r.toBits, o, 0x40#32⟩ next = .ok (.atomicOr32 d r o) ∧
    decodeFields ⟨0xc3#8, d.toBits, r.toBits, o, 0x50#32⟩ next = .ok (.atomicAnd32 d r o) ∧
    decodeFields ⟨0xc3#8, d.toBits, r.toBits, o, 0xa0#32⟩ next = .ok (.atomicXor32 d r o) ∧
    decodeFields ⟨0xc3#8, d.toBits, r.toBits, o, 0xf1#32⟩ next = .ok (.cmpxchg32 d r o) ∧
    decodeFields ⟨0xdb#8, d.toBits, r.toBits, o, 0x00#32⟩ next = .ok (.atomicAdd64 d r o) ∧
    decodeFields ⟨0xdb#8, d.toBits, r.toBits, o, 0x40#32⟩ next = .ok (.atomicOr64 d r o) ∧
    decodeFields ⟨0xdb#8, d.toBits, r.toBits, o, 0x50#32⟩ next = .ok (.atomicAnd64 d r o) ∧
    decodeFields ⟨0xdb#8, d.toBits, r.toBits, o, 0xa0#32⟩ next = .ok (.atomicXor64 d r o) ∧
    decodeFields ⟨0xdb#8, d.toBits, r.toBits, o, 0xf1#32⟩ next = .ok (.cmpxchg64 d r o) ∧
    (r ≠ .r10 →
      decodeFields ⟨0xc3#8, d.toBits, r.toBits, o, 0x01#32⟩ next = .ok (.fetchAdd32 d r o) ∧
      decodeFields ⟨0xc3#8, d.toBits, r.toBits, o, 0x41#32⟩ next = .ok (.fetchOr32 d r o) ∧
      decodeFields ⟨0xc3#8, d.toBits, r.toBits, o, 0x51#32⟩ next = .ok (.fetchAnd32 d r o) ∧
      decodeFields ⟨0xc3#8, d.toBits, r.toBits, o, 0xa1#32⟩ next = .ok (.fetchXor32 d r o) ∧
      decodeFields ⟨0xc3#8, d.toBits, r.toBits, o, 0xe1#32⟩ next = .ok (.xchg32 d r o) ∧
      decodeFields ⟨0xdb#8, d.toBits, r.toBits, o, 0x01#32⟩ next = .ok (.fetchAdd64 d r o) ∧
      decodeFields ⟨0xdb#8, d.toBits, r.toBits, o, 0x41#32⟩ next = .ok (.fetchOr64 d r o) ∧
      decodeFields ⟨0xdb#8, d.toBits, r.toBits, o, 0x51#32⟩ next = .ok (.fetchAnd64 d r o) ∧
      decodeFields ⟨0xdb#8, d.toBits, r.toBits, o, 0xa1#32⟩ next = .ok (.fetchXor64 d r o) ∧
      decodeFields ⟨0xdb#8, d.toBits, r.toBits, o, 0xe1#32⟩ next = .ok (.xchg64 d r o))

/-- A step whose slot has opcode bits 2:0 = 0 and an opcode that is neither 0x18 nor a legacy opcode ends in
IllegalInstruction(pc), whatever the other bytes are, in either byte order. -/
def Obligations.ClassLdOpcodesOutsideTheTableAreIllegal : Prop :=
  ∀ (s : State) (a : Slot), s.st = .running → slotAt s.prog s.pc = some a → a.b0.toNat % 8 = 0 →
    a.b0 ≠ 0x18#8 → a.b0.toNat ∉ [0x20, 0x28, 0x30, 0x38, 0x40, 0x48, 0x50, 0x58] →
    step s = .fault (.illegalInstruction s.pc)

/-- A running step at a slot with opcode 0xdf ends in IllegalInstruction. At a slot with opcode 0x18 followed by a slot
whose opcode, register or offset bytes are not all zero it ends in IllegalInstruction. At a slot with a legacy opcode
it ends in LegacyInstruction with that opcode. That the source's reserved encodings end so is the spec's decisions D7,
D9, D29 and D37. -/
def Obligations.ReservedEncodingsRaise : Prop :=
  ∀ (s : State) (a : Slot), s.st = .running → slotAt s.prog s.pc = some a →
    (a.b0 = 0xdf#8 → step s = .fault (.illegalInstruction s.pc)) ∧
    (∀ b, a.b0 = 0x18#8 → slotAt s.prog (s.pc + 1) = some b →
      ¬(b.b0 = 0#8 ∧ b.b1 = 0#8 ∧ b.b2 = 0#8 ∧ b.b3 = 0#8) → step s = .fault (.illegalInstruction s.pc)) ∧
    (a.b0.toNat ∈ legacyOpcodes → step s = .fault (.legacyInstruction a.b0))

/-- At a running state whose slot at pc exists and is rejected: a missing second slot gives PcOutOfRange(pc + 1), every
other rejection IllegalInstruction(pc); the recorded fault is the only change. A register number of 11 to 15, a non-
zero unused field and R10 as the destination are among them (decisions D6 to D9); the missing second slot is decision
D37, the precise fault decision D35, its recording through settle log entry 13. -/
def Obligations.RejectedEncodingsRaiseAndChangeNothing : Prop :=
  ∀ (s : State) (a : Slot) (r : Reject), s.st = .running → slotAt s.prog s.pc = some a →
    decode s.plat.endian a (slotAt s.prog (s.pc + 1)) = .error r →
    ∃ f, f = (if r = .missingSecondSlot then .pcOutOfRange (s.pc + 1) else .illegalInstruction s.pc) ∧
      step s = .fault f ∧ s.settle (step s) = { s with st := .faulted f }

/-- If the run is on, pc is inside the program and the slots at pc and pc + 1 decode to i, then i is well formed and step
s = exec i s. The step adds nothing of its own: exec moves pc past the instruction. -/
def Obligations.StepRunsTheDecodedInstruction : Prop :=
  ∀ (s : State) (a : Slot) (i : Instr), s.st = .running → 0 ≤ s.pc → s.prog[s.pc.toNat]? = some a →
    decode s.plat.endian a (s.prog[(s.pc + 1).toNat]?) = .ok i → i.wellFormed = true ∧ step s = exec i s

/-- While the run is on, a step whose pc is outside 0 .. PROG_LEN - 1 ends in PcOutOfRange(pc) and executes nothing; there
is no implicit exit at the end of a program (the spec's decision D10). -/
def Obligations.FetchOutsideTheProgramRaises : Prop :=
  ∀ s : State, s.st = .running → (s.pc < 0 ∨ (s.prog.length : Int) ≤ s.pc) → step s = .fault (.pcOutOfRange s.pc)

/-- If step s ends in the fault f, the settled state is s with status Faulted(f) and every other part as it was, and it
takes no further step: step answers the refusal runOver and the state stays for ever. A state that has exited takes no
further step either. The precise fault is the spec's decision D35; recording it through settle is log entry 13. -/
def Obligations.AFaultEndsTheRunAndChangesNothingElse : Prop :=
  (∀ (s : State) (f : Fault), step s = .fault f →
    s.settle (step s) = { s with st := .faulted f } ∧
      ∀ n, (s.settle (step s)).after n = { s with st := .faulted f } ∧
        step ((s.settle (step s)).after n) = .refused .runOver) ∧
  ∀ (s : State) (v : Word) (n : Nat), s.st = .exited v → step s = .refused .runOver ∧ s.after n = s

/-- For every state and every number of steps, whatever the program does and however the run ends: the program is that of
the start (decision D3), and so are the platform's parameters. That no instruction changes a parameter is the opening
of 10_state.md (they are not state); that the platform changes none during a run, in a helper call say, is the model's
choice, log entry 2. -/
def Obligations.ProgramAndPlatformNeverChange : Prop :=
  ∀ (s : State) (n : Nat), (s.after n).prog = s.prog ∧ (s.after n).plat = s.plat

/-- For every instruction and every state: if it completes, then with any other program in place it completes in the same
state but for that program; if it faults, it faults alike. No instruction reads the program as data (decision D3). -/
def Obligations.InstructionsCannotReadTheProgram : Prop :=
  ∀ (i : Instr) (s : State) (prog : List Slot),
    (∀ t, exec i s = .next t → exec i { s with prog := prog } = .next { t with prog := prog }) ∧
    (∀ f, exec i s = .fault f → exec i { s with prog := prog } = .fault f)

/-- Reading a written register gives its value and changes nothing. Reading an unwritten one gives, where the platform
draws, the next free value, whatever it is, and advances the draw counter alone, so that two reads use two free
values; where the platform faults it gives nothing. Which reading holds is a launch parameter (decision D5, log entry
3). A register written reads as written, the others as before. -/
def Obligations.ReadingARegister : Prop :=
  (∀ (s : State) (r : Reg) (v : Word), s.regs.get r = .word v → s.readReg r = some (v, s)) ∧
  (∀ (s : State) (r : Reg), s.regs.get r = .unwritten → s.plat.unwrittenRead = .draw →
    s.readReg r = some (Config.freeReg s.draws, { s with draws := s.draws + 1 })) ∧
  (∀ (s : State) (r : Reg), s.regs.get r = .unwritten → s.plat.unwrittenRead = .fault → s.readReg r = none) ∧
  ∀ (f : RegFile) (r q : Reg) (c : RegCell), (f.set r c).get q = if q = r then c else f.get q

/-- Where unwritten reads fault: if a well-formed instruction reads the registers, in the order dst, src, R0, that are
written up to r, and r is unwritten, it ends in UnwrittenRegister(r), whatever else is wrong with the access. Where
they draw a free value (the reset platform among them, log entry 3), no instruction in any state ends in
UnwrittenRegister. The order is the spec's decision D35, the two readings decision D5. That the drawing reading covers
the outermost exit's read of R0 too is the model's choice, log entry 25. -/
def Obligations.UnwrittenReadsRaiseFirstOrNever : Prop :=
  (∀ (i : Instr) (s : State) (pre post : List Reg) (r : Reg), i.wellFormed = true →
    s.plat.unwrittenRead = .fault → readsOf s.cs i = pre ++ r :: post →
    (∀ q ∈ pre, s.regs.get q ≠ .unwritten) → s.regs.get r = .unwritten →
    exec i s = .fault (.unwrittenRegister r)) ∧
  ∀ (i : Instr) (s : State) (r : Reg), s.plat.unwrittenRead = .draw → exec i s ≠ .fault (.unwrittenRegister r)

/-- Every arithmetic, load or 64-bit immediate instruction with R10 as destination, and every fetching atomic with R10 as
source, ends in IllegalInstruction(pc) in every state, writing nothing. The restriction is the spec's own decision D6.
No encoding stands for such a term: the decoder rejects the slot, which RejectedEncodingsRaiseAndChangeNothing states
of step. That exec answers the same for the term is the model's choice, log entry 17. -/
def Obligations.WritingR10IsIllegal : Prop :=
  ∀ (i : Instr) (s : State), .r10 ∈ writesOf i → (∀ k, i ≠ .callLocal k) → i ≠ .exit →
    exec i s = .fault (.illegalInstruction s.pc)

/-- For every instruction that completes: every register outside writesOf i holds what it held. Arithmetic, loads and
64-bit immediates write dst alone, fetching atomics src alone, compare-and-exchange R0 alone, helper calls R0 to R5,
program-local calls R6 to R10, exit R1 to R10; jumps, stores and non-fetching atomics write none. (The registers of
calls and exit are decisions D22 to D24.) -/
def Obligations.RegisterFrame : Prop :=
  ∀ (i : Instr) (s t : State) (r : Reg), exec i s = .next t → r ∉ writesOf i → t.regs.get r = s.regs.get r

/-- For every instruction that completes: if it is no store, atomic or helper call, memory is unchanged; if it accesses
memory at base register a.base and offset a.off, every byte outside the a.n bytes from effectiveAddress(value of the
base, a.off) reads as before, the base being read first, at s. The wrapped address is decision D13. -/
def Obligations.MemoryFrame : Prop :=
  (∀ (i : Instr) (s t : State), exec i s = .next t → mayChangeMemory i = false → t.mem = s.mem) ∧
  ∀ (i : Instr) (s t s1 : State) (a : Access) (b : Word) (x : Nat), exec i s = .next t → accessOf i = some a →
    s.readReg a.base = some (b, s1) → ¬ inAccess (effectiveAddress b a.off) a.n x →
    readByte t.mem x = readByte s.mem x

/-- For every instruction that completes: the program and platform are unchanged; the call stack is unchanged unless it is
a program-local call or exit; the run status is unchanged unless it is exit; the queued platform answers are unchanged
unless it is a helper call; the draw counter never falls. The clauses on helperQueue and draws are about two fields of
the model's own, its choice, log entries 9 and 3; that the platform stays as it was in a helper call too is its
choice, log entry 2. -/
def Obligations.ControlFrame : Prop :=
  ∀ (i : Instr) (s t : State), exec i s = .next t →
    t.prog = s.prog ∧ t.plat = s.plat ∧ ((∀ k, i ≠ .callLocal k) → i ≠ .exit → t.cs = s.cs) ∧
    (i ≠ .exit → t.st = s.st) ∧ (isHelperCall i = false → t.helperQueue = s.helperQueue) ∧ s.draws ≤ t.draws

/-- For dst other than R10 and readable operands, the twelve forms of ADD, SUB and MUL complete and write the result
modulo 2^64, or modulo 2^32 zero-extended, with imm sign-extended in the 64-bit forms. Both operands are read before
the write; all other registers, memory, call stack and status are as they were, and pc moves on by one. -/
def Obligations.AddSubMulResults : Prop :=
  ∀ (s s1 : State) (d : Reg) (a : Word), d ≠ .r10 → s.readReg d = some (a, s1) →
    (∀ k : BitVec 32,
      exec (.add64K d k) s = .next (s1.wrote d (a + (k.signExtend 64)) 1) ∧
      exec (.add32K d k) s = .next (s1.wrote d ((a.setWidth 32 + k).setWidth 64) 1) ∧
      exec (.sub64K d k) s = .next (s1.wrote d (a - (k.signExtend 64)) 1) ∧
      exec (.sub32K d k) s = .next (s1.wrote d ((a.setWidth 32 - k).setWidth 64) 1) ∧
      exec (.mul64K d k) s = .next (s1.wrote d (a * (k.signExtend 64)) 1) ∧
      exec (.mul32K d k) s = .next (s1.wrote d ((a.setWidth 32 * k).setWidth 64) 1)) ∧
    ∀ (r : Reg) (s2 : State) (b : Word), s1.readReg r = some (b, s2) →
      exec (.add64X d r) s = .next (s2.wrote d (a + b) 1) ∧
      exec (.add32X d r) s = .next (s2.wrote d ((a.setWidth 32 + (b.setWidth 32)).setWidth 64) 1) ∧
      exec (.sub64X d r) s = .next (s2.wrote d (a - b) 1) ∧
      exec (.sub32X d r) s = .next (s2.wrote d ((a.setWidth 32 - (b.setWidth 32)).setWidth 64) 1) ∧
      exec (.mul64X d r) s = .next (s2.wrote d (a * b) 1) ∧
      exec (.mul32X d r) s = .next (s2.wrote d ((a.setWidth 32 * (b.setWidth 32)).setWidth 64) 1)

/-- For dst other than R10 and readable operands, the twelve forms of OR, AND and XOR complete and write the bitwise
result; the 32-bit forms clear bits 63:32. Both operands are read before the write; all other registers, memory, call
stack and status are as they were, and pc moves on by one. -/
def Obligations.BitwiseResults : Prop :=
  ∀ (s s1 : State) (d : Reg) (a : Word), d ≠ .r10 → s.readReg d = some (a, s1) →
    (∀ k : BitVec 32,
      exec (.or64K d k) s = .next (s1.wrote d (a ||| (k.signExtend 64)) 1) ∧
      exec (.or32K d k) s = .next (s1.wrote d ((a.setWidth 32 ||| k).setWidth 64) 1) ∧
      exec (.and64K d k) s = .next (s1.wrote d (a &&& (k.signExtend 64)) 1) ∧
      exec (.and32K d k) s = .next (s1.wrote d ((a.setWidth 32 &&& k).setWidth 64) 1) ∧
      exec (.xor64K d k) s = .next (s1.wrote d (a ^^^ (k.signExtend 64)) 1) ∧
      exec (.xor32K d k) s = .next (s1.wrote d ((a.setWidth 32 ^^^ k).setWidth 64) 1)) ∧
    ∀ (r : Reg) (s2 : State) (b : Word), s1.readReg r = some (b, s2) →
      exec (.or64X d r) s = .next (s2.wrote d (a ||| b) 1) ∧
      exec (.or32X d r) s = .next (s2.wrote d ((a.setWidth 32 ||| (b.setWidth 32)).setWidth 64) 1) ∧
      exec (.and64X d r) s = .next (s2.wrote d (a &&& b) 1) ∧
      exec (.and32X d r) s = .next (s2.wrote d ((a.setWidth 32 &&& (b.setWidth 32)).setWidth 64) 1) ∧
      exec (.xor64X d r) s = .next (s2.wrote d (a ^^^ b) 1) ∧
      exec (.xor32X d r) s = .next (s2.wrote d ((a.setWidth 32 ^^^ (b.setWidth 32)).setWidth 64) 1)

/-- For dst other than R10 and readable operands, the twelve shift forms complete and write dst shifted by the second
operand modulo 64 or 32: left and logical right with zero fill, arithmetic right with the sign. Both operands are read
before the write; all other registers, memory, call stack and status are as they were, and pc moves on by one. -/
def Obligations.ShiftResults : Prop :=
  ∀ (s s1 : State) (d : Reg) (a : Word), d ≠ .r10 → s.readReg d = some (a, s1) →
    (∀ k : BitVec 32,
      exec (.lsh64K d k) s = .next (s1.wrote d (a <<< ((k.signExtend 64).toNat % 64)) 1) ∧
      exec (.lsh32K d k) s = .next (s1.wrote d ((a.setWidth 32 <<< (k.toNat % 32)).setWidth 64) 1) ∧
      exec (.rsh64K d k) s = .next (s1.wrote d (a >>> ((k.signExtend 64).toNat % 64)) 1) ∧
      exec (.rsh32K d k) s = .next (s1.wrote d ((a.setWidth 32 >>> (k.toNat % 32)).setWidth 64) 1) ∧
      exec (.arsh64K d k) s = .next (s1.wrote d (a.sshiftRight ((k.signExtend 64).toNat % 64)) 1) ∧
      exec (.arsh32K d k) s = .next (s1.wrote d (((a.setWidth 32).sshiftRight (k.toNat % 32)).setWidth 64) 1)) ∧
    ∀ (r : Reg) (s2 : State) (b : Word), s1.readReg r = some (b, s2) →
      exec (.lsh64X d r) s = .next (s2.wrote d (a <<< (b.toNat % 64)) 1) ∧
      exec (.lsh32X d r) s = .next (s2.wrote d ((a.setWidth 32 <<< ((b.setWidth 32).toNat % 32)).setWidth 64) 1) ∧
      exec (.rsh64X d r) s = .next (s2.wrote d (a >>> (b.toNat % 64)) 1) ∧
      exec (.rsh32X d r) s = .next (s2.wrote d ((a.setWidth 32 >>> ((b.setWidth 32).toNat % 32)).setWidth 64) 1) ∧
      exec (.arsh64X d r) s = .next (s2.wrote d (a.sshiftRight (b.toNat % 64)) 1) ∧
      exec (.arsh32X d r) s =
        .next (s2.wrote d (((a.setWidth 32).sshiftRight ((b.setWidth 32).toNat % 32)).setWidth 64) 1)

/-- For every operand, the shift amount of a 64-bit shift is b AND 63 = b mod 64 and of a 32-bit shift b AND 31 = b mod
32, from a register or from imm; an amount equal to the width shifts by 0, width + 1 by 1, and imm = -1 by 63 or 31. -/
def Obligations.ShiftAmountsAreMasked : Prop :=
  (∀ b : BitVec 64, shiftAmount b = (b &&& 0x3f#64).toNat ∧ shiftAmount b = b.toNat % 64) ∧
  (∀ b : BitVec 32, shiftAmount b = (b &&& 0x1f#32).toNat ∧ shiftAmount b = b.toNat % 32) ∧
  (∀ a b : BitVec 64, aluLsh a b = a <<< (b.toNat % 64) ∧ aluRsh a b = a >>> (b.toNat % 64) ∧
    aluArsh a b = a.sshiftRight (b.toNat % 64)) ∧
  (∀ a b : BitVec 32, aluLsh a b = a <<< (b.toNat % 32) ∧ aluRsh a b = a >>> (b.toNat % 32) ∧
    aluArsh a b = a.sshiftRight (b.toNat % 32)) ∧
  shiftAmount (64#64) = 0 ∧ shiftAmount (65#64) = 1 ∧ shiftAmount (32#32) = 0 ∧ shiftAmount (33#32) = 1 ∧
  shiftAmount (immOperand 64 0xffffffff#32) = 63 ∧ shiftAmount (immOperand 32 0xffffffff#32) = 31

/-- For dst other than R10 and readable operands, the eight forms complete, whatever the divisor: DIV writes the unsigned
quotient or 0, MOD the unsigned remainder or the dividend (in the 32-bit forms with bits 63:32 cleared). imm is sign-
extended before it is read as unsigned in the 64-bit forms. Both operands are read before the write; all other
registers, memory, call stack and status are as they were, and pc moves on by one. -/
def Obligations.UnsignedDivisionAndModuloResults : Prop :=
  ∀ (s s1 : State) (d : Reg) (a : Word), d ≠ .r10 → s.readReg d = some (a, s1) →
    (∀ k : BitVec 32,
      exec (.div64K d k) s = .next (s1.wrote d (if (k.signExtend 64) = 0 then 0 else a / (k.signExtend 64)) 1) ∧
      exec (.div32K d k) s = .next (s1.wrote d ((if k = 0 then 0 else a.setWidth 32 / k).setWidth 64) 1) ∧
      exec (.mod64K d k) s = .next (s1.wrote d (if (k.signExtend 64) = 0 then a else a % (k.signExtend 64)) 1) ∧
      exec (.mod32K d k) s = .next (s1.wrote d ((if k = 0 then a.setWidth 32 else a.setWidth 32 % k).setWidth 64) 1)) ∧
    ∀ (r : Reg) (s2 : State) (b : Word), s1.readReg r = some (b, s2) →
      exec (.div64X d r) s = .next (s2.wrote d (if b = 0 then 0 else a / b) 1) ∧
      exec (.div32X d r) s =
        .next (s2.wrote d ((if (b.setWidth 32) = 0 then 0 else a.setWidth 32 / (b.setWidth 32)).setWidth 64) 1) ∧
      exec (.mod64X d r) s = .next (s2.wrote d (if b = 0 then a else a % b) 1) ∧
      exec (.mod32X d r) s =
        .next (s2.wrote d ((if (b.setWidth 32) = 0 then a.setWidth 32
            else a.setWidth 32 % (b.setWidth 32)).setWidth 64) 1)

/-- For dst other than R10 and readable operands, the eight forms complete, whatever the divisor: SDIV writes the quotient
truncated toward zero or 0, SMOD the truncated remainder or the dividend, reduced to the width. In particular -2^(W-1)
divided by -1 gives -2^(W-1) with remainder 0 (decision D16). Both operands are read before the write; all other
registers, memory, call stack and status are as they were, and pc moves on by one. -/
def Obligations.SignedDivisionAndModuloResults : Prop :=
  aluSdiv (BitVec.intMin 64) (-1#64) = BitVec.intMin 64 ∧ aluSmod (BitVec.intMin 64) (-1#64) = 0#64 ∧
  aluSdiv (BitVec.intMin 32) (-1#32) = BitVec.intMin 32 ∧ aluSmod (BitVec.intMin 32) (-1#32) = 0#32 ∧
  ∀ (s s1 : State) (d : Reg) (a : Word), d ≠ .r10 → s.readReg d = some (a, s1) →
    (∀ k : BitVec 32,
      exec (.sdiv64K d k) s =
        .next (s1.wrote d (if (k.signExtend 64) = 0 then 0
            else BitVec.ofInt 64 (a.toInt.tdiv (k.signExtend 64).toInt)) 1) ∧
      exec (.sdiv32K d k) s =
        .next (s1.wrote d ((if k = 0 then 0
            else BitVec.ofInt 32 ((a.setWidth 32).toInt.tdiv k.toInt)).setWidth 64) 1) ∧
      exec (.smod64K d k) s =
        .next (s1.wrote d (if (k.signExtend 64) = 0 then a
            else BitVec.ofInt 64 (a.toInt.tmod (k.signExtend 64).toInt)) 1) ∧
      exec (.smod32K d k) s =
        .next (s1.wrote d ((if k = 0 then a.setWidth 32
            else BitVec.ofInt 32 ((a.setWidth 32).toInt.tmod k.toInt)).setWidth 64) 1)) ∧
    ∀ (r : Reg) (s2 : State) (b : Word), s1.readReg r = some (b, s2) →
      exec (.sdiv64X d r) s = .next (s2.wrote d (if b = 0 then 0 else BitVec.ofInt 64 (a.toInt.tdiv b.toInt)) 1) ∧
      exec (.sdiv32X d r) s =
        .next (s2.wrote d ((if (b.setWidth 32) = 0 then 0
            else BitVec.ofInt 32 ((a.setWidth 32).toInt.tdiv (b.setWidth 32).toInt)).setWidth 64) 1) ∧
      exec (.smod64X d r) s = .next (s2.wrote d (if b = 0 then a else BitVec.ofInt 64 (a.toInt.tmod b.toInt)) 1) ∧
      exec (.smod32X d r) s =
        .next (s2.wrote d ((if (b.setWidth 32) = 0 then a.setWidth 32
            else BitVec.ofInt 32 ((a.setWidth 32).toInt.tmod (b.setWidth 32).toInt)).setWidth 64) 1)

/-- For dst other than R10: with a readable dst, NEG completes and writes its two's complement negation; MOV of imm
completes in every state, sign-extended to 64 bits in the 64-bit form (decision D14, log entry 18) and zero-extended
in the 32-bit form (decision D15, log entry 18), and MOV of a readable src writes it or its low half, without reading
dst. All other registers, memory, call stack and status are as they were, and pc moves on by one. -/
def Obligations.NegAndMovResults : Prop :=
  ∀ (s s1 : State) (d : Reg), d ≠ .r10 →
    (∀ a : Word, s.readReg d = some (a, s1) →
      exec (.neg64 d) s = .next (s1.wrote d (-a) 1) ∧
      exec (.neg32 d) s = .next (s1.wrote d ((-(a.setWidth 32)).setWidth 64) 1)) ∧
    (∀ k : BitVec 32,
      exec (.mov64K d k) s = .next (s.wrote d (k.signExtend 64) 1) ∧
      exec (.mov32K d k) s = .next (s.wrote d (k.setWidth 64) 1)) ∧
    ∀ (r : Reg) (b : Word), s.readReg r = some (b, s1) →
      exec (.mov64X d r) s = .next (s1.wrote d b 1) ∧
      exec (.mov32X d r) s = .next (s1.wrote d ((b.setWidth 32).setWidth 64) 1)

/-- For dst other than R10 and a readable src the five forms complete: bit i of the result is bit i of src below n, bit n
- 1 of src from n to the operation's width, and 0 above it. All other registers, memory, call stack and status are as
they were, and pc moves on by one. -/
def Obligations.SignExtendingMoveResults : Prop :=
  ∀ (s s1 : State) (d r : Reg) (b : Word), d ≠ .r10 → s.readReg r = some (b, s1) →
    exec (.movsx8to64 d r) s = .next (s1.wrote d ((b.setWidth 8).signExtend 64) 1) ∧
    exec (.movsx16to64 d r) s = .next (s1.wrote d ((b.setWidth 16).signExtend 64) 1) ∧
    exec (.movsx32to64 d r) s = .next (s1.wrote d ((b.setWidth 32).signExtend 64) 1) ∧
    exec (.movsx8to32 d r) s = .next (s1.wrote d (((b.setWidth 8).signExtend 32).setWidth 64) 1) ∧
    exec (.movsx16to32 d r) s = .next (s1.wrote d (((b.setWidth 16).signExtend 32).setWidth 64) 1)

/-- For every width X of at least 1, every target width Y from X up and every X-bit number A, bit i of the sign extension
to Y bits is bit i of A for i < X and bit X - 1 of A for X <= i < Y. The 64-bit extension sext64 is the case Y = 64.
The source's example 0x86 extended from 8 to 16 bits is 0xff86. -/
def Obligations.SignExtensionCopiesTheSignBit : Prop :=
  (∀ (x y : Nat) (v : BitVec x) (i : Nat), 0 < x → x ≤ y → i < y →
    (sext y v).getLsbD i = if i < x then v.getLsbD i else v.getLsbD (x - 1)) ∧
  (∀ (x : Nat) (v : BitVec x), sext64 v = sext 64 v) ∧
  sext 16 0x86#8 = 0xff86#16

/-- For dst other than R10 and readable, the nine forms complete: bswap swaps always; le swaps on a big-endian machine and
be on a little-endian one, and otherwise only truncate to the width. The bytes of the result above the width are zero.
All other registers, memory, call stack and status are as they were, and pc moves on by one. -/
def Obligations.ByteSwapResults : Prop :=
  ∀ (s s1 : State) (d : Reg) (a : Word), d ≠ .r10 → s.readReg d = some (a, s1) →
    let low16 := a.setWidth 16; let low32 := a.setWidth 32
    exec (.bswap16 d) s = .next (s1.wrote d ((bswap16 low16).setWidth 64) 1) ∧
    exec (.bswap32 d) s = .next (s1.wrote d ((bswap32 low32).setWidth 64) 1) ∧
    exec (.bswap64 d) s = .next (s1.wrote d (bswap64 a) 1) ∧
    (s.plat.endian = .little →
      exec (.toLe16 d) s = .next (s1.wrote d (low16.setWidth 64) 1) ∧
      exec (.toLe32 d) s = .next (s1.wrote d (low32.setWidth 64) 1) ∧
      exec (.toLe64 d) s = .next (s1.wrote d a 1) ∧
      exec (.toBe16 d) s = .next (s1.wrote d ((bswap16 low16).setWidth 64) 1) ∧
      exec (.toBe32 d) s = .next (s1.wrote d ((bswap32 low32).setWidth 64) 1) ∧
      exec (.toBe64 d) s = .next (s1.wrote d (bswap64 a) 1)) ∧
    (s.plat.endian = .big →
      exec (.toLe16 d) s = .next (s1.wrote d ((bswap16 low16).setWidth 64) 1) ∧
      exec (.toLe32 d) s = .next (s1.wrote d ((bswap32 low32).setWidth 64) 1) ∧
      exec (.toLe64 d) s = .next (s1.wrote d (bswap64 a) 1) ∧
      exec (.toBe16 d) s = .next (s1.wrote d (low16.setWidth 64) 1) ∧
      exec (.toBe32 d) s = .next (s1.wrote d (low32.setWidth 64) 1) ∧
      exec (.toBe64 d) s = .next (s1.wrote d a 1))

/-- For N = 16, 32, 64 and every value: byte j of the swapped value is byte N/8 - 1 - j of the value, for each j below
N/8, and the swap is its own inverse. (Marked derived by the spec.) -/
def Obligations.ByteSwapReversesBytes : Prop :=
  (∀ (v : BitVec 16) (j : Nat), j < 2 → (bswap16 v).extractLsb' (8 * j) 8 = v.extractLsb' (8 * (1 - j)) 8) ∧
  (∀ (v : BitVec 32) (j : Nat), j < 4 → (bswap32 v).extractLsb' (8 * j) 8 = v.extractLsb' (8 * (3 - j)) 8) ∧
  (∀ (v : BitVec 64) (j : Nat), j < 8 → (bswap64 v).extractLsb' (8 * j) 8 = v.extractLsb' (8 * (7 - j)) 8) ∧
  (∀ v, bswap16 (bswap16 v) = v) ∧ (∀ v, bswap32 (bswap32 v) = v) ∧ ∀ v, bswap64 (bswap64 v) = v

/-- In every state the two unconditional jumps complete: pc becomes pc + 1 + offset (class JMP, 16 bits signed) or pc + 1
+ imm (class JMP32, 32 bits signed), even where that lies outside the program (pc is an integer, log entry 11);
nothing else changes. The base pc + 1 is decision D2. -/
def Obligations.UnconditionalJumpResults : Prop :=
  ∀ (s : State) (o : BitVec 16) (k : BitVec 32),
    exec (.ja o) s = .next { s with pc := s.pc + 1 + o.toInt } ∧
    exec (.ja32 k) s = .next { s with pc := s.pc + 1 + k.toInt }

/-- The twelve forms of JEQ, JNE and JSET. For readable operands they complete: pc becomes pc + 1 + offset where the
condition holds and pc + 1 where it does not; no register, memory, call stack or status changes. imm is sign-extended
for 64 bits (decision D14); the base pc + 1 is decision D2; the 32-bit forms compare the low halves. -/
def Obligations.EqualityAndBitTestJumpResults : Prop :=
  ∀ (s s1 : State) (d : Reg) (a : Word) (o : BitVec 16), s.readReg d = some (a, s1) →
    (∀ k : BitVec 32,
      exec (.jeq64K d o k) s = .next { s1 with pc := if a = k.signExtend 64 then s.pc + 1 + o.toInt else s.pc + 1 } ∧
      exec (.jeq32K d o k) s = .next { s1 with pc := if a.setWidth 32 = k then s.pc + 1 + o.toInt else s.pc + 1 } ∧
      exec (.jne64K d o k) s = .next { s1 with pc := if a ≠ k.signExtend 64 then s.pc + 1 + o.toInt else s.pc + 1 } ∧
      exec (.jne32K d o k) s = .next { s1 with pc := if a.setWidth 32 ≠ k then s.pc + 1 + o.toInt else s.pc + 1 } ∧
      exec (.jset64K d o k) s =
        .next { s1 with pc := if a &&& k.signExtend 64 ≠ 0 then s.pc + 1 + o.toInt else s.pc + 1 } ∧
      exec (.jset32K d o k) s =
        .next { s1 with pc := if a.setWidth 32 &&& k ≠ 0 then s.pc + 1 + o.toInt else s.pc + 1 }) ∧
    ∀ (r : Reg) (s2 : State) (b : Word), s1.readReg r = some (b, s2) →
      exec (.jeq64X d r o) s = .next { s2 with pc := if a = b then s.pc + 1 + o.toInt else s.pc + 1 } ∧
      exec (.jeq32X d r o) s =
        .next { s2 with pc := if a.setWidth 32 = b.setWidth 32 then s.pc + 1 + o.toInt else s.pc + 1 } ∧
      exec (.jne64X d r o) s = .next { s2 with pc := if a ≠ b then s.pc + 1 + o.toInt else s.pc + 1 } ∧
      exec (.jne32X d r o) s =
        .next { s2 with pc := if a.setWidth 32 ≠ b.setWidth 32 then s.pc + 1 + o.toInt else s.pc + 1 } ∧
      exec (.jset64X d r o) s = .next { s2 with pc := if a &&& b ≠ 0 then s.pc + 1 + o.toInt else s.pc + 1 } ∧
      exec (.jset32X d r o) s =
        .next { s2 with pc := if a.setWidth 32 &&& b.setWidth 32 ≠ 0 then s.pc + 1 + o.toInt else s.pc + 1 }

/-- The sixteen forms of JGT, JGE, JLT and JLE compare as unsigned numbers. For readable operands they complete: pc
becomes pc + 1 + offset where the condition holds and pc + 1 where it does not; no register, memory, call stack or
status changes. imm is sign-extended for 64 bits (decision D14); the base pc + 1 is decision D2; the 32-bit forms
compare the low halves. -/
def Obligations.UnsignedJumpResults : Prop :=
  ∀ (s s1 : State) (d : Reg) (a : Word) (o : BitVec 16), s.readReg d = some (a, s1) →
    (∀ k : BitVec 32,
      exec (.jgt64K d o k) s = .next { s1 with pc := if k.signExtend 64 < a then s.pc + 1 + o.toInt else s.pc + 1 } ∧
      exec (.jgt32K d o k) s = .next { s1 with pc := if k < a.setWidth 32 then s.pc + 1 + o.toInt else s.pc + 1 } ∧
      exec (.jge64K d o k) s = .next { s1 with pc := if k.signExtend 64 ≤ a then s.pc + 1 + o.toInt else s.pc + 1 } ∧
      exec (.jge32K d o k) s = .next { s1 with pc := if k ≤ a.setWidth 32 then s.pc + 1 + o.toInt else s.pc + 1 } ∧
      exec (.jlt64K d o k) s = .next { s1 with pc := if a < k.signExtend 64 then s.pc + 1 + o.toInt else s.pc + 1 } ∧
      exec (.jlt32K d o k) s = .next { s1 with pc := if a.setWidth 32 < k then s.pc + 1 + o.toInt else s.pc + 1 } ∧
      exec (.jle64K d o k) s = .next { s1 with pc := if a ≤ k.signExtend 64 then s.pc + 1 + o.toInt else s.pc + 1 } ∧
      exec (.jle32K d o k) s = .next { s1 with pc := if a.setWidth 32 ≤ k then s.pc + 1 + o.toInt else s.pc + 1 }) ∧
    ∀ (r : Reg) (s2 : State) (b : Word), s1.readReg r = some (b, s2) →
      exec (.jgt64X d r o) s = .next { s2 with pc := if b < a then s.pc + 1 + o.toInt else s.pc + 1 } ∧
      exec (.jgt32X d r o) s =
        .next { s2 with pc := if b.setWidth 32 < a.setWidth 32 then s.pc + 1 + o.toInt else s.pc + 1 } ∧
      exec (.jge64X d r o) s = .next { s2 with pc := if b ≤ a then s.pc + 1 + o.toInt else s.pc + 1 } ∧
      exec (.jge32X d r o) s =
        .next { s2 with pc := if b.setWidth 32 ≤ a.setWidth 32 then s.pc + 1 + o.toInt else s.pc + 1 } ∧
      exec (.jlt64X d r o) s = .next { s2 with pc := if a < b then s.pc + 1 + o.toInt else s.pc + 1 } ∧
      exec (.jlt32X d r o) s =
        .next { s2 with pc := if a.setWidth 32 < b.setWidth 32 then s.pc + 1 + o.toInt else s.pc + 1 } ∧
      exec (.jle64X d r o) s = .next { s2 with pc := if a ≤ b then s.pc + 1 + o.toInt else s.pc + 1 } ∧
      exec (.jle32X d r o) s =
        .next { s2 with pc := if a.setWidth 32 ≤ b.setWidth 32 then s.pc + 1 + o.toInt else s.pc + 1 }

/-- The sixteen forms of JSGT, JSGE, JSLT and JSLE compare as two's complement numbers. For readable operands they
complete: pc becomes pc + 1 + offset where the condition holds and pc + 1 where it does not; no register, memory, call
stack or status changes. imm is sign-extended for 64 bits (decision D14); the base pc + 1 is decision D2; the 32-bit
forms compare the low halves. -/
def Obligations.SignedJumpResults : Prop :=
  ∀ (s s1 : State) (d : Reg) (a : Word) (o : BitVec 16), s.readReg d = some (a, s1) →
    (∀ k : BitVec 32,
      exec (.jsgt64K d o k) s =
        .next { s1 with pc := if (k.signExtend 64).toInt < a.toInt then s.pc + 1 + o.toInt else s.pc + 1 } ∧
      exec (.jsgt32K d o k) s =
        .next { s1 with pc := if k.toInt < (a.setWidth 32).toInt then s.pc + 1 + o.toInt else s.pc + 1 } ∧
      exec (.jsge64K d o k) s =
        .next { s1 with pc := if (k.signExtend 64).toInt ≤ a.toInt then s.pc + 1 + o.toInt else s.pc + 1 } ∧
      exec (.jsge32K d o k) s =
        .next { s1 with pc := if k.toInt ≤ (a.setWidth 32).toInt then s.pc + 1 + o.toInt else s.pc + 1 } ∧
      exec (.jslt64K d o k) s =
        .next { s1 with pc := if a.toInt < (k.signExtend 64).toInt then s.pc + 1 + o.toInt else s.pc + 1 } ∧
      exec (.jslt32K d o k) s =
        .next { s1 with pc := if (a.setWidth 32).toInt < k.toInt then s.pc + 1 + o.toInt else s.pc + 1 } ∧
      exec (.jsle64K d o k) s =
        .next { s1 with pc := if a.toInt ≤ (k.signExtend 64).toInt then s.pc + 1 + o.toInt else s.pc + 1 } ∧
      exec (.jsle32K d o k) s =
        .next { s1 with pc := if (a.setWidth 32).toInt ≤ k.toInt then s.pc + 1 + o.toInt else s.pc + 1 }) ∧
    ∀ (r : Reg) (s2 : State) (b : Word), s1.readReg r = some (b, s2) →
      exec (.jsgt64X d r o) s = .next { s2 with pc := if b.toInt < a.toInt then s.pc + 1 + o.toInt else s.pc + 1 } ∧
      exec (.jsgt32X d r o) s =
        .next { s2 with pc := if (b.setWidth 32).toInt < (a.setWidth 32).toInt then s.pc + 1 + o.toInt else s.pc + 1 } ∧
      exec (.jsge64X d r o) s = .next { s2 with pc := if b.toInt ≤ a.toInt then s.pc + 1 + o.toInt else s.pc + 1 } ∧
      exec (.jsge32X d r o) s =
        .next { s2 with pc := if (b.setWidth 32).toInt ≤ (a.setWidth 32).toInt then s.pc + 1 + o.toInt else s.pc + 1 } ∧
      exec (.jslt64X d r o) s = .next { s2 with pc := if a.toInt < b.toInt then s.pc + 1 + o.toInt else s.pc + 1 } ∧
      exec (.jslt32X d r o) s =
        .next { s2 with pc := if (a.setWidth 32).toInt < (b.setWidth 32).toInt then s.pc + 1 + o.toInt else s.pc + 1 } ∧
      exec (.jsle64X d r o) s = .next { s2 with pc := if a.toInt ≤ b.toInt then s.pc + 1 + o.toInt else s.pc + 1 } ∧
      exec (.jsle32X d r o) s =
        .next { s2 with pc := if (a.setWidth 32).toInt ≤ (b.setWidth 32).toInt then s.pc + 1 + o.toInt else s.pc + 1 }

/-- For a helper the platform has, by number or by BTF ID, the call completes: R0 takes the answer's result, the answer's
bytes are written, R1 to R5 become unwritten, R6 to R10, the call stack and status stay, pc moves on by one. The
answer is the next one the platform has ready, else a free value of which nothing is assumed (log entry 9). A call of
a helper the platform does not have ends in UnknownHelper(imm). The convention is decision D23. -/
def Obligations.HelperCallResults : Prop :=
  ∀ (s : State) (k : BitVec 32),
    (s.plat.helpersByAddr.contains k = true →
      (∀ (a : HelperAnswer) (rest : List HelperAnswer), s.helperQueue = a :: rest →
        exec (.callHelper k) s = .next { s with
          regs := { s.regs with r0 := .word a.r0, r1 := .unwritten, r2 := .unwritten, r3 := .unwritten,
                                r4 := .unwritten, r5 := .unwritten },
          mem := writeAll s.mem a.writes, pc := s.pc + 1, helperQueue := rest }) ∧
      (s.helperQueue = [] → ∃ a : HelperAnswer,
        a = Config.helperAnswer ⟨.byAddr k, s.regs.r1, s.regs.r2, s.regs.r3, s.regs.r4, s.regs.r5, s.mem⟩ s.draws ∧
        exec (.callHelper k) s = .next { s with
          regs := { s.regs with r0 := .word a.r0, r1 := .unwritten, r2 := .unwritten, r3 := .unwritten,
                                r4 := .unwritten, r5 := .unwritten },
          mem := writeAll s.mem a.writes, pc := s.pc + 1, draws := s.draws + 1 })) ∧
    (s.plat.helpersByBtf.contains k = true →
      (∀ (a : HelperAnswer) (rest : List HelperAnswer), s.helperQueue = a :: rest →
        exec (.callBtf k) s = .next { s with
          regs := { s.regs with r0 := .word a.r0, r1 := .unwritten, r2 := .unwritten, r3 := .unwritten,
                                r4 := .unwritten, r5 := .unwritten },
          mem := writeAll s.mem a.writes, pc := s.pc + 1, helperQueue := rest }) ∧
      (s.helperQueue = [] → ∃ a : HelperAnswer,
        a = Config.helperAnswer ⟨.byBtf k, s.regs.r1, s.regs.r2, s.regs.r3, s.regs.r4, s.regs.r5, s.mem⟩ s.draws ∧
        exec (.callBtf k) s = .next { s with
          regs := { s.regs with r0 := .word a.r0, r1 := .unwritten, r2 := .unwritten, r3 := .unwritten,
                                r4 := .unwritten, r5 := .unwritten },
          mem := writeAll s.mem a.writes, pc := s.pc + 1, draws := s.draws + 1 })) ∧
    (s.plat.helpersByAddr.contains k = false → exec (.callHelper k) s = .fault (.unknownHelper k)) ∧
    (s.plat.helpersByBtf.contains k = false → exec (.callBtf k) s = .fault (.unknownHelper k))

/-- With fewer than MAX_CALL_DEPTH frames the call completes: it pushes a frame with ret = pc + 1 and R6 to R10 as they
are, R6 to R9 become unwritten, R10 becomes FrameTop of the new depth, pc becomes pc + 1 + imm; R0 to R5, memory and
status stay. With MAX_CALL_DEPTH frames it ends in CallDepthExceeded. The saving of registers and the bound are
decision D22; the base pc + 1 of the target is decision D2 (log entry 11). -/
def Obligations.LocalCallResult : Prop :=
  ∀ (s : State) (k : BitVec 32),
    (s.cs.length < s.plat.maxCallDepth →
      exec (.callLocal k) s = .next { s with
        regs := { s.regs with r6 := .unwritten, r7 := .unwritten, r8 := .unwritten, r9 := .unwritten,
                              r10 := .word (frameTop s.plat (s.cs.length + 1)) },
        cs := ⟨s.pc + 1, s.regs.r6, s.regs.r7, s.regs.r8, s.regs.r9, s.regs.r10⟩ :: s.cs,
        pc := s.pc + 1 + k.toInt }) ∧
    (s.plat.maxCallDepth ≤ s.cs.length → exec (.callLocal k) s = .fault .callDepthExceeded)

/-- With an empty call stack and R0 readable, exit sets the status to Exited(R0) and changes nothing else. With a frame on
the stack it pops it, restores R6 to R10 as saved, unwrites R1 to R5, sets pc to the return slot and leaves R0,
written or not, memory and status; R0 is not read. What exit restores and unwrites is decision D22, the result of the
run decision D24. That an unwritten R0 counts as readable at the outermost exit of a drawing platform, so that the run
ends with a drawn value where D24 speaks of the fault, is the model's choice, log entry 25. -/
def Obligations.ExitResults : Prop :=
  ∀ s : State,
    (∀ (v : Word) (s1 : State), s.cs = [] → s.readReg .r0 = some (v, s1) →
      exec .exit s = .next { s1 with st := .exited v }) ∧
    ∀ (f : Frame) (rest : List Frame), s.cs = f :: rest →
      exec .exit s = .next { s with
        regs := ⟨s.regs.r0, .unwritten, .unwritten, .unwritten, .unwritten, .unwritten, f.r6, f.r7, f.r8, f.r9, f.r10⟩,
        cs := rest, pc := f.ret }

/-- If a program-local call completes from s in t, then in any later state u with the same call stack as t, exit
completes: pc is the slot after the call, R6 to R10 and the call stack are those of s, R0 and memory are those the
callee left. -/
def Obligations.CallThenExitReturnsToTheCaller : Prop :=
  ∀ (s t u : State) (k : BitVec 32), exec (.callLocal k) s = .next t → u.cs = t.cs →
    ∃ v, exec .exit u = .next v ∧ v.pc = s.pc + 1 ∧ v.cs = s.cs ∧ v.regs.r6 = s.regs.r6 ∧ v.regs.r7 = s.regs.r7 ∧
      v.regs.r8 = s.regs.r8 ∧ v.regs.r9 = s.regs.r9 ∧ v.regs.r10 = s.regs.r10 ∧ v.regs.r0 = u.regs.r0 ∧ v.mem = u.mem ∧
      v.st = u.st

/-- Provided the operands are readable, the address (base + sign-extended offset, modulo 2^64, decision D13) is aligned
where STRICT_ALIGN asks it (D12) and the access is admitted (D11), the four regular loads complete and write the
loaded number, zero-extended, to dst (not R10). Nothing else changes but pc; dst may be the base register. -/
def Obligations.LoadResults : Prop :=
  ∀ (s s1 : State) (d r : Reg) (o : BitVec 16) (b ea : Word), d ≠ .r10 → s.readReg r = some (b, s1) →
    ea = b + o.signExtend 64 →
    (s.accessOk s.plat.strictAlign ea 4 .read →
      exec (.ldxW d r o) s = .next (s1.wrote d (BitVec.ofNat 64 (s.load ea 4)) 1)) ∧
    (s.accessOk s.plat.strictAlign ea 2 .read →
      exec (.ldxH d r o) s = .next (s1.wrote d (BitVec.ofNat 64 (s.load ea 2)) 1)) ∧
    (s.accessOk s.plat.strictAlign ea 1 .read →
      exec (.ldxB d r o) s = .next (s1.wrote d (BitVec.ofNat 64 (s.load ea 1)) 1)) ∧
    (s.accessOk s.plat.strictAlign ea 8 .read →
      exec (.ldxDW d r o) s = .next (s1.wrote d (BitVec.ofNat 64 (s.load ea 8)) 1))

/-- Provided the operands are readable, the address (base + sign-extended offset, modulo 2^64, decision D13) is aligned
where STRICT_ALIGN asks it (D12) and the access is admitted (D11), the three sign-extension loads complete and write
the loaded number, sign-extended to 64 bits, to dst (not R10). Nothing else changes but pc. -/
def Obligations.SignExtendingLoadResults : Prop :=
  ∀ (s s1 : State) (d r : Reg) (o : BitVec 16) (b ea : Word), d ≠ .r10 → s.readReg r = some (b, s1) →
    ea = b + o.signExtend 64 →
    (s.accessOk s.plat.strictAlign ea 4 .read →
      exec (.ldxsW d r o) s = .next (s1.wrote d ((BitVec.ofNat 32 (s.load ea 4)).signExtend 64) 1)) ∧
    (s.accessOk s.plat.strictAlign ea 2 .read →
      exec (.ldxsH d r o) s = .next (s1.wrote d ((BitVec.ofNat 16 (s.load ea 2)).signExtend 64) 1)) ∧
    (s.accessOk s.plat.strictAlign ea 1 .read →
      exec (.ldxsB d r o) s = .next (s1.wrote d ((BitVec.ofNat 8 (s.load ea 1)).signExtend 64) 1))

/-- Provided the operands are readable, the address (base + sign-extended offset, modulo 2^64, decision D13) is aligned
where STRICT_ALIGN asks it (D12) and the access is admitted (D11), the four immediate stores complete: they write the
low 8, 16, 32 or 64 bits of the sign-extended imm to the bytes at the address, in the machine's byte order, and change
nothing else but pc. The base may be R10. -/
def Obligations.ImmediateStoreResults : Prop :=
  ∀ (s s1 : State) (d : Reg) (o : BitVec 16) (k : BitVec 32) (a ea : Word), s.readReg d = some (a, s1) →
    ea = a + o.signExtend 64 →
    (s.accessOk s.plat.strictAlign ea 4 .write →
      exec (.stW d o k) s = .next (s1.stored ea 4 k.toNat)) ∧
    (s.accessOk s.plat.strictAlign ea 2 .write →
      exec (.stH d o k) s = .next (s1.stored ea 2 (k.toNat % 2 ^ 16))) ∧
    (s.accessOk s.plat.strictAlign ea 1 .write →
      exec (.stB d o k) s = .next (s1.stored ea 1 (k.toNat % 2 ^ 8))) ∧
    (s.accessOk s.plat.strictAlign ea 8 .write →
      exec (.stDW d o k) s = .next (s1.stored ea 8 (k.signExtend 64).toNat))

/-- Provided the operands are readable, the address (base + sign-extended offset, modulo 2^64, decision D13) is aligned
where STRICT_ALIGN asks it (D12) and the access is admitted (D11), the four register stores complete: they write the
low bits of src to the bytes at the address, in the machine's byte order, and change nothing else but pc. Either
register may be R10 and they may be the same. -/
def Obligations.RegisterStoreResults : Prop :=
  ∀ (s s1 s2 : State) (d r : Reg) (o : BitVec 16) (a b ea : Word), s.readReg d = some (a, s1) →
    s1.readReg r = some (b, s2) → ea = a + o.signExtend 64 →
    (s.accessOk s.plat.strictAlign ea 4 .write →
      exec (.stxW d r o) s = .next (s2.stored ea 4 (b.toNat % 2 ^ 32))) ∧
    (s.accessOk s.plat.strictAlign ea 2 .write →
      exec (.stxH d r o) s = .next (s2.stored ea 2 (b.toNat % 2 ^ 16))) ∧
    (s.accessOk s.plat.strictAlign ea 1 .write →
      exec (.stxB d r o) s = .next (s2.stored ea 1 (b.toNat % 2 ^ 8))) ∧
    (s.accessOk s.plat.strictAlign ea 8 .write →
      exec (.stxDW d r o) s = .next (s2.stored ea 8 b.toNat))

/-- For every width n, byte j (least significant first) of the number read at ea is the byte at ea + j in little-endian
and at ea + n - 1 - j in big-endian, and the number is below 256^n; a store of v puts byte j of v at that same address
and leaves every address outside the n bytes as it was. (The data byte order is decision D1.) -/
def Obligations.MemoryByteOrder : Prop :=
  ∀ (e : Endian) (m : Memory) (ea : Word) (n v j x : Nat),
    memRead e m ea n < 256 ^ n ∧
    (j < n → ∃ a, a = ea.toNat + (match e with | .little => j | .big => n - 1 - j) ∧
      memRead e m ea n / 256 ^ j % 256 = (readByte m a).toNat ∧
      (readByte (memWrite e m ea n v) a).toNat = v / 256 ^ j % 256) ∧
    (¬ inAccess ea n x → readByte (memWrite e m ea n v) x = readByte m x)

/-- If a register store of a width completes from s in t with the base a and the value b written in s, then in t, where
the same address may be read, the load of that width to q (not R10) from the same base and offset completes with the
low bits of b, zero-extended. The wrapped address is decision D13. -/
def Obligations.LoadAfterStoreReturnsTheStoredBits : Prop :=
  ∀ (s t : State) (d r q : Reg) (o : BitVec 16) (a b ea : Word), s.regs.get d = .word a → s.regs.get r = .word b →
    ea = a + o.signExtend 64 → q ≠ .r10 →
    (exec (.stxB d r o) s = .next t → memAdmit s.plat ea 1 .read = true →
      exec (.ldxB q d o) t = .next (t.wrote q ((b.setWidth 8).setWidth 64) 1)) ∧
    (exec (.stxH d r o) s = .next t → memAdmit s.plat ea 2 .read = true →
      exec (.ldxH q d o) t = .next (t.wrote q ((b.setWidth 16).setWidth 64) 1)) ∧
    (exec (.stxW d r o) s = .next t → memAdmit s.plat ea 4 .read = true →
      exec (.ldxW q d o) t = .next (t.wrote q ((b.setWidth 32).setWidth 64) 1)) ∧
    (exec (.stxDW d r o) s = .next t → memAdmit s.plat ea 8 .read = true →
      exec (.ldxDW q d o) t = .next (t.wrote q b 1))

/-- After a store of the 8 bytes of v at ea, on a little-endian machine the byte, half word at ea and the word at ea + 4
are the low byte, low half word and high word of v; on a big-endian machine they are the high byte, high half word and
low word. (Marked derived by the spec, from decision D1.) -/
def Obligations.NarrowReadsOfAWideStore : Prop :=
  ∀ (m : Memory) (ea : Word) (v : Nat), v < 2 ^ 64 → ea.toNat + 8 ≤ 2 ^ 64 →
    (let m' := memWrite .little m ea 8 v
     memRead .little m' ea 1 = v % 2 ^ 8 ∧ memRead .little m' ea 2 = v % 2 ^ 16 ∧
       memRead .little m' (ea + 4#64) 4 = v / 2 ^ 32) ∧
    (let m' := memWrite .big m ea 8 v
     memRead .big m' ea 1 = v / 2 ^ 56 ∧ memRead .big m' ea 2 = v / 2 ^ 48 ∧
       memRead .big m' (ea + 4#64) 4 = v % 2 ^ 32)

/-- For every well-formed load, store or atomic whose registers are all written: if the address is not a multiple of the
width, and the instruction is atomic or STRICT_ALIGN is set, it ends in Misaligned(ea, n), whether the access is
admitted or not, and changes nothing. The wrapped address is decision D13. -/
def Obligations.MisalignedAccessRaises : Prop :=
  ∀ (i : Instr) (s : State) (a : Access) (b ea : Word), i.wellFormed = true → accessOf i = some a →
    (∀ r ∈ readsOf s.cs i, s.regs.get r ≠ .unwritten) → s.regs.get a.base = .word b →
    ea = b + a.off.signExtend 64 → ea.toNat % a.n ≠ 0 → (a.kind = .atomic ∨ s.plat.strictAlign = true) →
    exec i s = .fault (.misaligned ea a.n)

/-- For every well-formed load, store or atomic whose registers are all written and whose address is aligned as far as it
must be: if the platform does not admit the access, it ends in MemoryFault(ea, n, kind) and changes nothing. No access
whose last byte lies past address 2^64 - 1 is admitted, and an atomic access is admitted only where reading and
writing are. The wrapped address is decision D13, the alignment asked for decisions D12 and D26; the form memAdmit
gives the open predicate is log entry 7. -/
def Obligations.InadmissibleAccessRaises : Prop :=
  (∀ (i : Instr) (s : State) (a : Access) (b ea : Word), i.wellFormed = true → accessOf i = some a →
    (∀ r ∈ readsOf s.cs i, s.regs.get r ≠ .unwritten) → s.regs.get a.base = .word b →
    ea = b + a.off.signExtend 64 → ((a.kind = .atomic ∨ s.plat.strictAlign = true) → ea.toNat % a.n = 0) →
    memAdmit s.plat ea a.n a.kind = false → exec i s = .fault (.memoryFault ea a.n a.kind)) ∧
  (∀ (p : Platform) (ea : Word) (n : Nat) (kind : AccessKind), 2 ^ 64 < ea.toNat + n → memAdmit p ea n kind = false) ∧
  ∀ (p : Platform) (ea : Word) (n : Nat), memAdmit p ea n .atomic = true →
    memAdmit p ea n .read = true ∧ memAdmit p ea n .write = true

/-- In every state with the machine invariant, at every call depth: the bytes from R10 - STACK_SIZE up to R10, or from
address 0 where R10 is below STACK_SIZE, admit loads and stores of any width that lies inside them (decision D33), and
atomics where the launch has stackAtomic. The model's choices: the stack region of every depth is admitted (log entry
7), it is cut off at address 0 (log entry 23), and whether it admits atomics is a launch parameter (log entry 24). -/
def Obligations.TheStackIsAdmitted : Prop :=
  ∀ (s : State) (top ea : Word) (n : Nat) (kind : AccessKind), s.Inv → s.regs.r10 = .word top →
    top.toNat - s.plat.stackSize ≤ ea.toNat → ea.toNat + n ≤ top.toNat →
    (kind = .atomic → s.plat.stackAtomic = true) → memAdmit s.plat ea n kind = true

/-- Provided the operands are readable, the address (base + sign-extended offset, modulo 2^64, decision D13) is a multiple
of the width (whatever STRICT_ALIGN is, decision D26) and an atomic access is admitted (D11), the eight non-fetching
atomics complete: memory takes the old value combined with the low bits of src, and nothing else changes but pc. The
base and src may be the same register and may be R10. -/
def Obligations.AtomicWithoutFetchResults : Prop :=
  ∀ (s s1 s2 : State) (d r : Reg) (o : BitVec 16) (a b ea : Word), s.readReg d = some (a, s1) →
    s1.readReg r = some (b, s2) → ea = a + o.signExtend 64 →
    (s.accessOk true ea 4 .atomic → ∀ old b4 : BitVec 32, old = BitVec.ofNat 32 (s.load ea 4) → b4 = b.setWidth 32 →
      exec (.atomicAdd32 d r o) s = .next (s2.stored ea 4 (old + b4).toNat) ∧
      exec (.atomicOr32 d r o) s = .next (s2.stored ea 4 (old ||| b4).toNat) ∧
      exec (.atomicAnd32 d r o) s = .next (s2.stored ea 4 (old &&& b4).toNat) ∧
      exec (.atomicXor32 d r o) s = .next (s2.stored ea 4 (old ^^^ b4).toNat)) ∧
    (s.accessOk true ea 8 .atomic → ∀ old : BitVec 64, old = BitVec.ofNat 64 (s.load ea 8) →
      exec (.atomicAdd64 d r o) s = .next (s2.stored ea 8 (old + b).toNat) ∧
      exec (.atomicOr64 d r o) s = .next (s2.stored ea 8 (old ||| b).toNat) ∧
      exec (.atomicAnd64 d r o) s = .next (s2.stored ea 8 (old &&& b).toNat) ∧
      exec (.atomicXor64 d r o) s = .next (s2.stored ea 8 (old ^^^ b).toNat))

/-- Provided the operands are readable, the address (base + sign-extended offset, modulo 2^64, decision D13) is a multiple
of the width (whatever STRICT_ALIGN is, decision D26) and an atomic access is admitted (D11), for src other than R10
the eight fetching atomics and the two exchanges complete: memory takes old OP src (exchange: src), src takes the old
value, zero-extended (decision D25), and nothing else changes but pc. -/
def Obligations.AtomicFetchAndExchangeResults : Prop :=
  ∀ (s s1 s2 : State) (d r : Reg) (o : BitVec 16) (a b ea : Word), s.readReg d = some (a, s1) →
    s1.readReg r = some (b, s2) → ea = a + o.signExtend 64 → r ≠ .r10 →
    (s.accessOk true ea 4 .atomic → ∀ old b4 : BitVec 32, old = BitVec.ofNat 32 (s.load ea 4) → b4 = b.setWidth 32 →
      exec (.fetchAdd32 d r o) s = .next ((s2.stored ea 4 (old + b4).toNat).setReg r (.word (old.setWidth 64))) ∧
      exec (.fetchOr32 d r o) s = .next ((s2.stored ea 4 (old ||| b4).toNat).setReg r (.word (old.setWidth 64))) ∧
      exec (.fetchAnd32 d r o) s = .next ((s2.stored ea 4 (old &&& b4).toNat).setReg r (.word (old.setWidth 64))) ∧
      exec (.fetchXor32 d r o) s = .next ((s2.stored ea 4 (old ^^^ b4).toNat).setReg r (.word (old.setWidth 64))) ∧
      exec (.xchg32 d r o) s = .next ((s2.stored ea 4 b4.toNat).setReg r (.word (old.setWidth 64)))) ∧
    (s.accessOk true ea 8 .atomic → ∀ old : BitVec 64, old = BitVec.ofNat 64 (s.load ea 8) →
      exec (.fetchAdd64 d r o) s = .next ((s2.stored ea 8 (old + b).toNat).setReg r (.word old)) ∧
      exec (.fetchOr64 d r o) s = .next ((s2.stored ea 8 (old ||| b).toNat).setReg r (.word old)) ∧
      exec (.fetchAnd64 d r o) s = .next ((s2.stored ea 8 (old &&& b).toNat).setReg r (.word old)) ∧
      exec (.fetchXor64 d r o) s = .next ((s2.stored ea 8 (old ^^^ b).toNat).setReg r (.word old)) ∧
      exec (.xchg64 d r o) s = .next ((s2.stored ea 8 b.toNat).setReg r (.word old)))

/-- Provided the operands are readable, the address (base + sign-extended offset, modulo 2^64, decision D13) is a multiple
of the width (whatever STRICT_ALIGN is, decision D26) and an atomic access is admitted (D11), with R0 readable too,
the two compare-and-exchanges complete: memory takes the low bits of src where the old value equals the low bits of
R0, and is untouched otherwise; R0 takes the old value, zero-extended; src is not written, and may be R10; nothing
else changes but pc. That the 32-bit form compares with the low 32 bits of R0, and the zero extension, are decision
D25 (log entry 18). -/
def Obligations.CompareAndExchangeResults : Prop :=
  ∀ (s s1 s2 s3 : State) (d r : Reg) (o : BitVec 16) (a b c ea : Word), s.readReg d = some (a, s1) →
    s1.readReg r = some (b, s2) → s2.readReg .r0 = some (c, s3) → ea = a + o.signExtend 64 →
    (s.accessOk true ea 4 .atomic → ∀ old : BitVec 32, old = BitVec.ofNat 32 (s.load ea 4) →
      exec (.cmpxchg32 d r o) s =
        if old = c.setWidth 32 then .next ((s3.stored ea 4 (b.setWidth 32).toNat).setReg .r0 (.word (old.setWidth 64)))
        else .next (s3.wrote .r0 (old.setWidth 64) 1)) ∧
    (s.accessOk true ea 8 .atomic → ∀ old : BitVec 64, old = BitVec.ofNat 64 (s.load ea 8) →
      exec (.cmpxchg64 d r o) s =
        if old = c then .next ((s3.stored ea 8 b.toNat).setReg .r0 (.word old))
        else .next (s3.wrote .r0 old 1))

/-- For dst other than R10, dst = imm64 completes in every state and writes the number whose bits 63:32 are next_imm and
whose bits 31:0 are imm, which is (next_imm << 32) OR imm with both taken as unsigned patterns; pc moves past both
slots and nothing else changes. -/
def Obligations.Imm64IsBothHalves : Prop :=
  ∀ (s : State) (d : Reg) (k n : BitVec 32), d ≠ .r10 → ∃ v : Word,
    exec (.ldImm64 d k n) s = .next (s.wrote d v 2) ∧ v = (n.setWidth 64 <<< 32) ||| k.setWidth 64 ∧
      v.extractLsb' 32 32 = n ∧ v.extractLsb' 0 32 = k

/-- For dst other than R10: where the platform's map has an entry, the instruction completes and writes it, moving pc past
both slots and changing nothing else; where it has none, it ends in PlatformLookupFailed with the kind and key.
code_addr is asked with pc and the signed imm (decision D36, log entry 10). -/
def Obligations.PlatformAddressResults : Prop :=
  ∀ (s : State) (d : Reg) (k : BitVec 32), d ≠ .r10 →
    (∀ v, s.plat.mapByFd.lookup k = some v → exec (.ldMapFd d k) s = .next (s.wrote d v 2)) ∧
    (∀ v, s.plat.mapByIdx.lookup k = some v → exec (.ldMapIdx d k) s = .next (s.wrote d v 2)) ∧
    (∀ v, s.plat.varAddr.lookup k = some v → exec (.ldVarAddr d k) s = .next (s.wrote d v 2)) ∧
    (∀ v, s.plat.codeAddr.lookup (s.pc, k.toInt) = some v → exec (.ldCodeAddr d k) s = .next (s.wrote d v 2)) ∧
    (s.plat.mapByFd.lookup k = none → exec (.ldMapFd d k) s = .fault (.platformLookupFailed (.mapFd k))) ∧
    (s.plat.mapByIdx.lookup k = none → exec (.ldMapIdx d k) s = .fault (.platformLookupFailed (.mapIdx k))) ∧
    (s.plat.varAddr.lookup k = none → exec (.ldVarAddr d k) s = .fault (.platformLookupFailed (.varId k))) ∧
    (s.plat.codeAddr.lookup (s.pc, k.toInt) = none →
      exec (.ldCodeAddr d k) s = .fault (.platformLookupFailed (.code k)))

/-- For dst other than R10 and bit 31 of next_imm clear: where the platform has the map and its value address v, both map-
value instructions complete and write v + next_imm modulo 2^64, moving pc past both slots and changing nothing else;
where the map or its value address is missing they end in PlatformLookupFailed. -/
def Obligations.MapValueAddressResults : Prop :=
  ∀ (s : State) (d : Reg) (k n : BitVec 32) (m : Word), d ≠ .r10 → n.toNat < 2 ^ 31 →
    (∀ v, s.plat.mapVal.lookup m = some v →
      (s.plat.mapByFd.lookup k = some m → exec (.ldMapFdVal d k n) s = .next (s.wrote d (v + n.setWidth 64) 2)) ∧
      (s.plat.mapByIdx.lookup k = some m → exec (.ldMapIdxVal d k n) s = .next (s.wrote d (v + n.setWidth 64) 2))) ∧
    (s.plat.mapVal.lookup m = none →
      (s.plat.mapByFd.lookup k = some m → exec (.ldMapFdVal d k n) s = .fault (.platformLookupFailed (.mapVal m))) ∧
      (s.plat.mapByIdx.lookup k = some m → exec (.ldMapIdxVal d k n) s = .fault (.platformLookupFailed (.mapVal m)))) ∧
    (s.plat.mapByFd.lookup k = none → exec (.ldMapFdVal d k n) s = .fault (.platformLookupFailed (.mapFd k))) ∧
    (s.plat.mapByIdx.lookup k = none → exec (.ldMapIdxVal d k n) s = .fault (.platformLookupFailed (.mapIdx k)))

/-- In every state, whatever their fields hold, the eight legacy instructions end in the fault LegacyInstruction with
their opcode: the source gives them no operation and the spec refuses them (decision D29). That the fault stands in
their meaning and not in the decoder is log entry 15. -/
def Obligations.LegacyInstructionsStop : Prop :=
  ∀ (s : State) (d r : BitVec 4) (o : BitVec 16) (k : BitVec 32),
    exec (.ldAbsW d r o k) s = .fault (.legacyInstruction 0x20#8) ∧
    exec (.ldAbsH d r o k) s = .fault (.legacyInstruction 0x28#8) ∧
    exec (.ldAbsB d r o k) s = .fault (.legacyInstruction 0x30#8) ∧
    exec (.ldAbsDW d r o k) s = .fault (.legacyInstruction 0x38#8) ∧
    exec (.ldIndW d r o k) s = .fault (.legacyInstruction 0x40#8) ∧
    exec (.ldIndH d r o k) s = .fault (.legacyInstruction 0x48#8) ∧
    exec (.ldIndB d r o k) s = .fault (.legacyInstruction 0x50#8) ∧
    exec (.ldIndDW d r o k) s = .fault (.legacyInstruction 0x58#8)
end

