-- ==== Sys2Proof/Laws/Decode.lean ====
section
/-! SUPPORT. For each reader of the decoder, once: what it answers for the fields an encoding has. -/

namespace Sys2Proof

/-- A register's number names that register (30_encoding.md R82). -/
@[simp] theorem regOfBits_toBits (r : Reg) : regOfBits r.toBits = some r := by cases r <;> rfl

/-- A register field holding a register's number is read as that register. -/
@[simp] theorem readReg_toBits (r : Reg) : readReg r.toBits = .ok r := by simp [readReg]

/-- So is a field of a register the instruction writes, but for R10 (10_state.md R24). -/
theorem readDst_toBits {d : Reg} (h : d ≠ .r10) : readDst d.toBits = .ok d := by
  simp [readDst, h, bind, Except.bind]

theorem readAluK_fields {op : BitVec 8} {d : Reg} (h : d ≠ .r10) (imm : BitVec 32) (mk : Reg → BitVec 32 → Instr) :
    readAluK ⟨op, d.toBits, 0#4, 0#16, imm⟩ mk = .ok (mk d imm) := by
  simp [readAluK, unused, readDst_toBits h, bind, Except.bind]

theorem readAluX_fields {op : BitVec 8} {d : Reg} (h : d ≠ .r10) (r : Reg) (mk : Reg → Reg → Instr) :
    readAluX ⟨op, d.toBits, r.toBits, 0#16, 0#32⟩ mk = .ok (mk d r) := by
  simp [readAluX, unused, readDst_toBits h, bind, Except.bind]

theorem readUnary_fields {op : BitVec 8} {d : Reg} (h : d ≠ .r10) (mk : Reg → Instr) :
    readUnary ⟨op, d.toBits, 0#4, 0#16, 0#32⟩ mk = .ok (mk d) := by
  simp [readUnary, unused, readDst_toBits h, bind, Except.bind]

theorem readLoad_fields {op : BitVec 8} {d : Reg} (h : d ≠ .r10) (r : Reg) (off : BitVec 16)
    (mk : Reg → Reg → BitVec 16 → Instr) : readLoad ⟨op, d.toBits, r.toBits, off, 0#32⟩ mk = .ok (mk d r off) := by
  simp [readLoad, unused, readDst_toBits h, bind, Except.bind]

theorem readJumpK_fields (op : BitVec 8) (d : Reg) (off : BitVec 16) (imm : BitVec 32)
    (mk : Reg → BitVec 16 → BitVec 32 → Instr) : readJumpK ⟨op, d.toBits, 0#4, off, imm⟩ mk = .ok (mk d off imm) := by
  simp [readJumpK, unused, bind, Except.bind]

theorem readJumpX_fields (op : BitVec 8) (d r : Reg) (off : BitVec 16) (mk : Reg → Reg → BitVec 16 → Instr) :
    readJumpX ⟨op, d.toBits, r.toBits, off, 0#32⟩ mk = .ok (mk d r off) := by
  simp [readJumpX, unused, bind, Except.bind]

/-- An atomic operation is read with its registers; one that writes its source register does not name R10. -/
theorem readAtomic_fields {op : BitVec 8} {d r : Reg} {off : BitVec 16} {imm : BitVec 32} {fetch : Bool}
    {mk : Reg → Reg → BitVec 16 → Instr} (h : fetch = true → r ≠ .r10) :
    readAtomic ⟨op, d.toBits, r.toBits, off, imm⟩ (some (fetch, mk)) = .ok (mk d r off) := by
  cases fetch
  · simp [readAtomic, select, bind, Except.bind]
  · simp [readAtomic, select, readDst_toBits (h rfl), bind, Except.bind]

/-- The second slot of a wide instruction is read as its `next_imm` (30_encoding.md R66). -/
@[simp] theorem readNext_pseudoFields (n : BitVec 32) : readNext (some (pseudoFields n)) = .ok n := by
  simp [readNext, pseudoFields]

end Sys2Proof
end

