-- ==== Sys2Proof/Laws/Memory.lean ====
section
/-! SUPPORT. The laws of memory: reading after writing, and every operation keeps the canonical form. -/

namespace Sys2Proof.Machine

/-! ### One byte -/

@[simp] theorem lookupByte_writeByte_same (m : Memory) (a : Nat) (b : Byte) : lookupByte (writeByte m a b) a = some b := by
  induction m with
  | nil => simp [writeByte, lookupByte]
  | cons p m ih =>
    obtain ⟨a', b'⟩ := p
    simp only [writeByte]
    split
    · simp [lookupByte]
    · split
      · simp [lookupByte]
      · simp [lookupByte, *]

theorem lookupByte_writeByte_ne (m : Memory) {a x : Nat} (b : Byte) (h : x ≠ a) :
    lookupByte (writeByte m a b) x = lookupByte m x := by
  induction m with
  | nil => simp [writeByte, lookupByte, h]
  | cons p m ih =>
    obtain ⟨a', b'⟩ := p
    simp only [writeByte]
    split
    · simp [lookupByte, h]
    · split
      · subst_vars; simp [lookupByte, h]
      · simp [lookupByte, ih]

/-- Reading the byte just written gives it. -/
@[simp] theorem readByte_writeByte_same (m : Memory) (a : Nat) (b : Byte) : readByte (writeByte m a b) a = b := by
  simp [readByte]

/-- Writing a byte leaves every other address alone. -/
theorem readByte_writeByte_ne (m : Memory) {a x : Nat} (b : Byte) (h : x ≠ a) :
    readByte (writeByte m a b) x = readByte m x := by
  simp [readByte, lookupByte_writeByte_ne m b h]

/-! ### The canonical form -/

theorem risingFrom_mono {m : Memory} {lo hi : Nat} (h : risingFrom hi m = true) (hle : lo ≤ hi) : risingFrom lo m = true := by
  cases m with
  | nil => rfl
  | cons p m =>
    simp only [risingFrom, Bool.and_eq_true, decide_eq_true_eq] at *
    exact ⟨⟨by omega, h.1.2⟩, h.2⟩

theorem risingFrom_writeByte {m : Memory} {lo a : Nat} (b : Byte) (h : risingFrom lo m = true) (hlo : lo ≤ a)
    (ha : a < 2 ^ 64) : risingFrom lo (writeByte m a b) = true := by
  induction m generalizing lo with
  | nil => simp [writeByte, risingFrom]; omega
  | cons p m ih =>
    obtain ⟨a', b'⟩ := p
    simp only [risingFrom, Bool.and_eq_true, decide_eq_true_eq] at h
    simp only [writeByte]
    split
    · simp only [risingFrom, Bool.and_eq_true, decide_eq_true_eq]; exact ⟨⟨hlo, ha⟩, ⟨by omega, h.1.2⟩, h.2⟩
    · split
      · subst_vars; simp only [risingFrom, Bool.and_eq_true, decide_eq_true_eq]; exact h
      · simp only [risingFrom, Bool.and_eq_true, decide_eq_true_eq]
        exact ⟨h.1, ih h.2 (by omega)⟩

/-- A write of a byte keeps the canonical form. -/
theorem memoryWf_writeByte {m : Memory} {a : Nat} (b : Byte) (h : memoryWf m = true) (ha : a < 2 ^ 64) :
    memoryWf (writeByte m a b) = true :=
  risingFrom_writeByte b h (Nat.zero_le a) ha

/-- A write of consecutive bytes keeps the canonical form. -/
theorem memoryWf_writeBytes {m : Memory} {a : Nat} {bs : List Byte} (h : memoryWf m = true)
    (ha : a + bs.length ≤ 2 ^ 64) : memoryWf (writeBytes m a bs) = true := by
  induction bs generalizing m a with
  | nil => exact h
  | cons b bs ih =>
    simp only [List.length_cons] at ha
    exact ih (memoryWf_writeByte b h (by omega)) (by omega)

/-- What a helper writes keeps the canonical form. -/
theorem memoryWf_writeAll {m : Memory} {ws : List (Word × Byte)} (h : memoryWf m = true) :
    memoryWf (writeAll m ws) = true := by
  induction ws generalizing m with
  | nil => exact h
  | cons w ws ih => exact ih (memoryWf_writeByte w.2 h w.1.isLt)

/-! ### Bytes of a number -/

@[simp] theorem length_bytesOfNat (n v : Nat) : (bytesOfNat n v).length = n := by
  induction n generalizing v <;> simp [bytesOfNat, *]

@[simp] theorem length_inOrder (e : Endian) (bs : List Byte) : (inOrder e bs).length = bs.length := by
  cases e <;> simp [inOrder]

@[simp] theorem inOrder_inOrder (e : Endian) (bs : List Byte) : inOrder e (inOrder e bs) = bs := by
  cases e <;> simp [inOrder]

/-- Putting the low `n` bytes of a number together gives its low `8 n` bits. -/
theorem natOfBytes_bytesOfNat (n v : Nat) : natOfBytes (bytesOfNat n v) = v % 2 ^ (8 * n) := by
  induction n generalizing v with
  | zero => simp [bytesOfNat, natOfBytes, Nat.mod_one]
  | succ n ih =>
    simp only [bytesOfNat, natOfBytes, ih, BitVec.toNat_ofNat]
    have h1 : 2 ^ (8 * (n + 1)) = 256 * 2 ^ (8 * n) := by rw [Nat.mul_succ, Nat.pow_add]; omega
    rw [h1, Nat.mod_mul]

/-- The number of `n` bytes is below `256 ^ n`. -/
theorem natOfBytes_lt (bs : List Byte) : natOfBytes bs < 256 ^ bs.length := by
  induction bs with
  | nil => simp [natOfBytes]
  | cons b bs ih =>
    simp only [natOfBytes, List.length_cons, Nat.pow_succ]
    have := b.isLt
    omega

@[simp] theorem length_readBytes (m : Memory) (a n : Nat) : (readBytes m a n).length = n := by
  induction n generalizing a <;> simp [readBytes, *]

/-! ### Several bytes -/

/-- Writing consecutive bytes leaves every address outside them alone. -/
theorem readByte_writeBytes_ne (m : Memory) {a x : Nat} (bs : List Byte) (h : x < a ∨ a + bs.length ≤ x) :
    readByte (writeBytes m a bs) x = readByte m x := by
  induction bs generalizing m a with
  | nil => rfl
  | cons b bs ih =>
    simp only [List.length_cons] at h
    rw [writeBytes, ih _ (by omega), readByte_writeByte_ne _ _ (by omega)]

/-- The bytes just written are read back. -/
theorem readBytes_writeBytes (m : Memory) (a : Nat) (bs : List Byte) :
    readBytes (writeBytes m a bs) a bs.length = bs := by
  induction bs generalizing m a with
  | nil => rfl
  | cons b bs ih =>
    simp only [List.length_cons, readBytes, writeBytes]
    rw [readByte_writeBytes_ne _ _ (Or.inl (by omega)), readByte_writeByte_same, ih]

/-- A value stored is read back with the same width, in either byte order (20_memory.md R40). -/
theorem memRead_memWrite (e : Endian) (m : Memory) (ea : Word) (n v : Nat) :
    memRead e (memWrite e m ea n v) ea n = v % 2 ^ (8 * n) := by
  have h := readBytes_writeBytes m ea.toNat (inOrder e (bytesOfNat n v))
  rw [length_inOrder, length_bytesOfNat] at h
  simp [memRead, memWrite, h, natOfBytes_bytesOfNat]

/-- A store leaves every byte outside the access alone. -/
theorem readByte_memWrite_ne (e : Endian) (m : Memory) (ea : Word) (n v : Nat) {x : Nat}
    (h : x < ea.toNat ∨ ea.toNat + n ≤ x) : readByte (memWrite e m ea n v) x = readByte m x :=
  readByte_writeBytes_ne m _ (by simpa using h)

/-- A store that does not pass the top of the address space keeps the canonical form. -/
theorem memoryWf_memWrite {e : Endian} {m : Memory} {ea : Word} {n v : Nat} (h : memoryWf m = true)
    (ha : ea.toNat + n ≤ 2 ^ 64) : memoryWf (memWrite e m ea n v) = true :=
  memoryWf_writeBytes h (by simpa using ha)

/-- The memory of the reset state has the canonical form. -/
theorem memoryWf_reset : memoryWf State.reset.mem = true := rfl

/-- An admitted access does not pass the top of the address space (20_memory.md R47). -/
theorem memAdmit_le {p : Platform} {ea : Word} {n : Nat} {kind : AccessKind} (h : memAdmit p ea n kind = true) :
    ea.toNat + n ≤ 2 ^ 64 := by
  simp only [memAdmit, Bool.and_eq_true, decide_eq_true_eq] at h
  exact h.1.1

/-- The launch permits an access exactly where one of its regions does or it lists the access (00_scope.md R5). -/
theorem permitted_iff {p : Platform} {ea : Word} {n : Nat} {kind : AccessKind} : permitted p ea n kind = true ↔
    (∃ r ∈ admittedRegions p, regionPermits r kind = true ∧ regionHolds r ea.toNat n = true) ∨
      (⟨ea, n, kind⟩ : AdmittedAccess) ∈ p.accesses := by
  simp [permitted]

/-- What the platform admits: below the top of the address space, what the launch permits, an atomic access where
reading and writing are permitted too (20_memory.md R47). -/
theorem memAdmit_iff {p : Platform} {ea : Word} {n : Nat} {kind : AccessKind} : memAdmit p ea n kind = true ↔
    ea.toNat + n ≤ 2 ^ 64 ∧ permitted p ea n kind = true ∧
      (kind = .atomic → permitted p ea n .read = true ∧ permitted p ea n .write = true) := by
  cases kind <;> simp [memAdmit, and_assoc]

end Sys2Proof.Machine
end

