-- ==== Sys2Proof/Laws/State.lean ====
section
/-! SUPPORT. One lemma for each field of each update of the state, and the reading of registers after a write. -/

namespace Sys2Proof.Machine

/-! ### setReg -/

@[simp] theorem State.setReg_regs (s : State) (i : Reg) (c : RegCell) : (s.setReg i c).regs = s.regs.set i c := rfl
@[simp] theorem State.setReg_pc (s : State) (i : Reg) (c : RegCell) : (s.setReg i c).pc = s.pc := rfl
@[simp] theorem State.setReg_cs (s : State) (i : Reg) (c : RegCell) : (s.setReg i c).cs = s.cs := rfl
@[simp] theorem State.setReg_mem (s : State) (i : Reg) (c : RegCell) : (s.setReg i c).mem = s.mem := rfl
@[simp] theorem State.setReg_st (s : State) (i : Reg) (c : RegCell) : (s.setReg i c).st = s.st := rfl
@[simp] theorem State.setReg_prog (s : State) (i : Reg) (c : RegCell) : (s.setReg i c).prog = s.prog := rfl
@[simp] theorem State.setReg_plat (s : State) (i : Reg) (c : RegCell) : (s.setReg i c).plat = s.plat := rfl
@[simp] theorem State.setReg_helperQueue (s : State) (i : Reg) (c : RegCell) : (s.setReg i c).helperQueue = s.helperQueue := rfl
@[simp] theorem State.setReg_draws (s : State) (i : Reg) (c : RegCell) : (s.setReg i c).draws = s.draws := rfl

/-! ### clobberArgs -/

@[simp] theorem State.clobberArgs_regs (s : State) : (s.clobberArgs).regs = { s.regs with r1 := .unwritten, r2 := .unwritten, r3 := .unwritten, r4 := .unwritten, r5 := .unwritten } := rfl
@[simp] theorem State.clobberArgs_pc (s : State) : (s.clobberArgs).pc = s.pc := rfl
@[simp] theorem State.clobberArgs_cs (s : State) : (s.clobberArgs).cs = s.cs := rfl
@[simp] theorem State.clobberArgs_mem (s : State) : (s.clobberArgs).mem = s.mem := rfl
@[simp] theorem State.clobberArgs_st (s : State) : (s.clobberArgs).st = s.st := rfl
@[simp] theorem State.clobberArgs_prog (s : State) : (s.clobberArgs).prog = s.prog := rfl
@[simp] theorem State.clobberArgs_plat (s : State) : (s.clobberArgs).plat = s.plat := rfl
@[simp] theorem State.clobberArgs_helperQueue (s : State) : (s.clobberArgs).helperQueue = s.helperQueue := rfl
@[simp] theorem State.clobberArgs_draws (s : State) : (s.clobberArgs).draws = s.draws := rfl

/-! ### clobberSaved -/

@[simp] theorem State.clobberSaved_regs (s : State) : (s.clobberSaved).regs = { s.regs with r6 := .unwritten, r7 := .unwritten, r8 := .unwritten, r9 := .unwritten } := rfl
@[simp] theorem State.clobberSaved_pc (s : State) : (s.clobberSaved).pc = s.pc := rfl
@[simp] theorem State.clobberSaved_cs (s : State) : (s.clobberSaved).cs = s.cs := rfl
@[simp] theorem State.clobberSaved_mem (s : State) : (s.clobberSaved).mem = s.mem := rfl
@[simp] theorem State.clobberSaved_st (s : State) : (s.clobberSaved).st = s.st := rfl
@[simp] theorem State.clobberSaved_prog (s : State) : (s.clobberSaved).prog = s.prog := rfl
@[simp] theorem State.clobberSaved_plat (s : State) : (s.clobberSaved).plat = s.plat := rfl
@[simp] theorem State.clobberSaved_helperQueue (s : State) : (s.clobberSaved).helperQueue = s.helperQueue := rfl
@[simp] theorem State.clobberSaved_draws (s : State) : (s.clobberSaved).draws = s.draws := rfl

/-! ### restoreSaved -/

@[simp] theorem State.restoreSaved_regs (s : State) (f : Frame) : (s.restoreSaved f).regs = { s.regs with r6 := f.r6, r7 := f.r7, r8 := f.r8, r9 := f.r9, r10 := f.r10 } := rfl
@[simp] theorem State.restoreSaved_pc (s : State) (f : Frame) : (s.restoreSaved f).pc = s.pc := rfl
@[simp] theorem State.restoreSaved_cs (s : State) (f : Frame) : (s.restoreSaved f).cs = s.cs := rfl
@[simp] theorem State.restoreSaved_mem (s : State) (f : Frame) : (s.restoreSaved f).mem = s.mem := rfl
@[simp] theorem State.restoreSaved_st (s : State) (f : Frame) : (s.restoreSaved f).st = s.st := rfl
@[simp] theorem State.restoreSaved_prog (s : State) (f : Frame) : (s.restoreSaved f).prog = s.prog := rfl
@[simp] theorem State.restoreSaved_plat (s : State) (f : Frame) : (s.restoreSaved f).plat = s.plat := rfl
@[simp] theorem State.restoreSaved_helperQueue (s : State) (f : Frame) : (s.restoreSaved f).helperQueue = s.helperQueue := rfl
@[simp] theorem State.restoreSaved_draws (s : State) (f : Frame) : (s.restoreSaved f).draws = s.draws := rfl

/-! ### advance -/

@[simp] theorem State.advance_regs (s : State) (k : Int) : (s.advance k).regs = s.regs := rfl
@[simp] theorem State.advance_pc (s : State) (k : Int) : (s.advance k).pc = s.pc + k := rfl
@[simp] theorem State.advance_cs (s : State) (k : Int) : (s.advance k).cs = s.cs := rfl
@[simp] theorem State.advance_mem (s : State) (k : Int) : (s.advance k).mem = s.mem := rfl
@[simp] theorem State.advance_st (s : State) (k : Int) : (s.advance k).st = s.st := rfl
@[simp] theorem State.advance_prog (s : State) (k : Int) : (s.advance k).prog = s.prog := rfl
@[simp] theorem State.advance_plat (s : State) (k : Int) : (s.advance k).plat = s.plat := rfl
@[simp] theorem State.advance_helperQueue (s : State) (k : Int) : (s.advance k).helperQueue = s.helperQueue := rfl
@[simp] theorem State.advance_draws (s : State) (k : Int) : (s.advance k).draws = s.draws := rfl

/-! ### goto -/

@[simp] theorem State.goto_regs (s : State) (t : Int) : (s.goto t).regs = s.regs := rfl
@[simp] theorem State.goto_pc (s : State) (t : Int) : (s.goto t).pc = t := rfl
@[simp] theorem State.goto_cs (s : State) (t : Int) : (s.goto t).cs = s.cs := rfl
@[simp] theorem State.goto_mem (s : State) (t : Int) : (s.goto t).mem = s.mem := rfl
@[simp] theorem State.goto_st (s : State) (t : Int) : (s.goto t).st = s.st := rfl
@[simp] theorem State.goto_prog (s : State) (t : Int) : (s.goto t).prog = s.prog := rfl
@[simp] theorem State.goto_plat (s : State) (t : Int) : (s.goto t).plat = s.plat := rfl
@[simp] theorem State.goto_helperQueue (s : State) (t : Int) : (s.goto t).helperQueue = s.helperQueue := rfl
@[simp] theorem State.goto_draws (s : State) (t : Int) : (s.goto t).draws = s.draws := rfl

/-! ### setMem -/

@[simp] theorem State.setMem_regs (s : State) (m : Memory) : (s.setMem m).regs = s.regs := rfl
@[simp] theorem State.setMem_pc (s : State) (m : Memory) : (s.setMem m).pc = s.pc := rfl
@[simp] theorem State.setMem_cs (s : State) (m : Memory) : (s.setMem m).cs = s.cs := rfl
@[simp] theorem State.setMem_mem (s : State) (m : Memory) : (s.setMem m).mem = m := rfl
@[simp] theorem State.setMem_st (s : State) (m : Memory) : (s.setMem m).st = s.st := rfl
@[simp] theorem State.setMem_prog (s : State) (m : Memory) : (s.setMem m).prog = s.prog := rfl
@[simp] theorem State.setMem_plat (s : State) (m : Memory) : (s.setMem m).plat = s.plat := rfl
@[simp] theorem State.setMem_helperQueue (s : State) (m : Memory) : (s.setMem m).helperQueue = s.helperQueue := rfl
@[simp] theorem State.setMem_draws (s : State) (m : Memory) : (s.setMem m).draws = s.draws := rfl

/-! ### setCs -/

@[simp] theorem State.setCs_regs (s : State) (cs : List Frame) : (s.setCs cs).regs = s.regs := rfl
@[simp] theorem State.setCs_pc (s : State) (cs : List Frame) : (s.setCs cs).pc = s.pc := rfl
@[simp] theorem State.setCs_cs (s : State) (cs : List Frame) : (s.setCs cs).cs = cs := rfl
@[simp] theorem State.setCs_mem (s : State) (cs : List Frame) : (s.setCs cs).mem = s.mem := rfl
@[simp] theorem State.setCs_st (s : State) (cs : List Frame) : (s.setCs cs).st = s.st := rfl
@[simp] theorem State.setCs_prog (s : State) (cs : List Frame) : (s.setCs cs).prog = s.prog := rfl
@[simp] theorem State.setCs_plat (s : State) (cs : List Frame) : (s.setCs cs).plat = s.plat := rfl
@[simp] theorem State.setCs_helperQueue (s : State) (cs : List Frame) : (s.setCs cs).helperQueue = s.helperQueue := rfl
@[simp] theorem State.setCs_draws (s : State) (cs : List Frame) : (s.setCs cs).draws = s.draws := rfl

/-! ### setStatus -/

@[simp] theorem State.setStatus_regs (s : State) (st : Status) : (s.setStatus st).regs = s.regs := rfl
@[simp] theorem State.setStatus_pc (s : State) (st : Status) : (s.setStatus st).pc = s.pc := rfl
@[simp] theorem State.setStatus_cs (s : State) (st : Status) : (s.setStatus st).cs = s.cs := rfl
@[simp] theorem State.setStatus_mem (s : State) (st : Status) : (s.setStatus st).mem = s.mem := rfl
@[simp] theorem State.setStatus_st (s : State) (st : Status) : (s.setStatus st).st = st := rfl
@[simp] theorem State.setStatus_prog (s : State) (st : Status) : (s.setStatus st).prog = s.prog := rfl
@[simp] theorem State.setStatus_plat (s : State) (st : Status) : (s.setStatus st).plat = s.plat := rfl
@[simp] theorem State.setStatus_helperQueue (s : State) (st : Status) : (s.setStatus st).helperQueue = s.helperQueue := rfl
@[simp] theorem State.setStatus_draws (s : State) (st : Status) : (s.setStatus st).draws = s.draws := rfl

/-! ### nextDraw -/

@[simp] theorem State.nextDraw_regs (s : State) : (s.nextDraw).regs = s.regs := rfl
@[simp] theorem State.nextDraw_pc (s : State) : (s.nextDraw).pc = s.pc := rfl
@[simp] theorem State.nextDraw_cs (s : State) : (s.nextDraw).cs = s.cs := rfl
@[simp] theorem State.nextDraw_mem (s : State) : (s.nextDraw).mem = s.mem := rfl
@[simp] theorem State.nextDraw_st (s : State) : (s.nextDraw).st = s.st := rfl
@[simp] theorem State.nextDraw_prog (s : State) : (s.nextDraw).prog = s.prog := rfl
@[simp] theorem State.nextDraw_plat (s : State) : (s.nextDraw).plat = s.plat := rfl
@[simp] theorem State.nextDraw_helperQueue (s : State) : (s.nextDraw).helperQueue = s.helperQueue := rfl
@[simp] theorem State.nextDraw_draws (s : State) : (s.nextDraw).draws = s.draws + 1 := rfl

/-! ### Registers -/

@[simp] theorem RegFile.get_set_same (r : RegFile) (i : Reg) (c : RegCell) : (r.set i c).get i = c := by
  cases i <;> rfl

theorem RegFile.get_set_ne (r : RegFile) {i j : Reg} (c : RegCell) (h : j ≠ i) : (r.set i c).get j = r.get j := by
  cases i <;> cases j <;> first | exact absurd rfl h | rfl

theorem RegFile.get_set (r : RegFile) (i j : Reg) (c : RegCell) :
    (r.set i c).get j = if j = i then c else r.get j := by
  split
  · subst_vars; simp
  · exact r.get_set_ne c ‹_›

@[simp] theorem RegFile.r10_set (r : RegFile) {i : Reg} (c : RegCell) (h : i ≠ .r10) : (r.set i c).r10 = r.r10 := by
  cases i <;> first | exact absurd rfl h | rfl

theorem RegFile.get_r10 (r : RegFile) : r.get .r10 = r.r10 := rfl

/-! ### readReg -/

theorem State.readReg_word {s : State} {i : Reg} {v : Word} (h : s.regs.get i = .word v) : s.readReg i = some (v, s) := by
  simp [State.readReg, h]

theorem State.readReg_draw {s : State} {i : Reg} (h : s.regs.get i = .unwritten) (hp : s.plat.unwrittenRead = .draw) :
    s.readReg i = some (Config.freeReg s.draws, s.nextDraw) := by
  simp [State.readReg, h, hp]

theorem State.readReg_fault {s : State} {i : Reg} (h : s.regs.get i = .unwritten) (hp : s.plat.unwrittenRead = .fault) :
    s.readReg i = none := by
  simp [State.readReg, h, hp]

/-- A read leaves everything but the draw counter as it was. -/
theorem State.readReg_state {s s' : State} {i : Reg} {v : Word} (h : s.readReg i = some (v, s')) :
    s' = s ∨ s' = s.nextDraw := by
  unfold State.readReg at h
  split at h
  · simp at h; exact .inl h.2.symm
  · split at h
    · simp at h; exact .inr h.2.symm
    · cases h

theorem State.readReg_regs {s s' : State} {i : Reg} {v : Word} (h : s.readReg i = some (v, s')) : s'.regs = s.regs := by
  rcases State.readReg_state h with rfl | rfl <;> rfl

theorem State.readReg_pc {s s' : State} {i : Reg} {v : Word} (h : s.readReg i = some (v, s')) : s'.pc = s.pc := by
  rcases State.readReg_state h with rfl | rfl <;> rfl

theorem State.readReg_cs {s s' : State} {i : Reg} {v : Word} (h : s.readReg i = some (v, s')) : s'.cs = s.cs := by
  rcases State.readReg_state h with rfl | rfl <;> rfl

theorem State.readReg_mem {s s' : State} {i : Reg} {v : Word} (h : s.readReg i = some (v, s')) : s'.mem = s.mem := by
  rcases State.readReg_state h with rfl | rfl <;> rfl

theorem State.readReg_st {s s' : State} {i : Reg} {v : Word} (h : s.readReg i = some (v, s')) : s'.st = s.st := by
  rcases State.readReg_state h with rfl | rfl <;> rfl

theorem State.readReg_prog {s s' : State} {i : Reg} {v : Word} (h : s.readReg i = some (v, s')) : s'.prog = s.prog := by
  rcases State.readReg_state h with rfl | rfl <;> rfl

theorem State.readReg_plat {s s' : State} {i : Reg} {v : Word} (h : s.readReg i = some (v, s')) : s'.plat = s.plat := by
  rcases State.readReg_state h with rfl | rfl <;> rfl

theorem State.readReg_helperQueue {s s' : State} {i : Reg} {v : Word} (h : s.readReg i = some (v, s')) : s'.helperQueue = s.helperQueue := by
  rcases State.readReg_state h with rfl | rfl <;> rfl

/-! ### settle -/

@[simp] theorem State.settle_next (s t : State) : s.settle (.next t) = t := rfl
@[simp] theorem State.settle_fault (s : State) (f : Fault) : s.settle (.fault f) = s.setStatus (.faulted f) := rfl
@[simp] theorem State.settle_refused (s : State) (r : Refusal) : s.settle (.refused r) = s := rfl

end Sys2Proof.Machine
end

