-- ==== Sys2Proof/Laws/Ops.lean ====
section
/-! SUPPORT. For each shared operation, once: everything it can do where it answers a next state. -/

namespace Sys2Proof.Machine

@[simp] theorem raise_eq_next {f : Fault} {t : State} : raise f = .next t ↔ False := by simp [raise]

theorem guardDst_eq {d : Reg} {s : State} {r : Result} (h : d ≠ .r10) : guardDst d s r = r := by simp [guardDst, h]

/-- A destination guard lets only what is behind it answer, and never for R10. -/
theorem guardDst_next {d : Reg} {s t : State} {r : Result} (h : guardDst d s r = .next t) : d ≠ .r10 ∧ r = .next t := by
  unfold guardDst at h
  split at h
  · simp at h
  · exact ⟨‹_›, h⟩

theorem withReg_eq {i : Reg} {s s' : State} {v : Word} {k : Word → State → Result} (h : s.readReg i = some (v, s')) :
    withReg i s k = k v s' := by
  simp [withReg, h]

theorem withReg_none {i : Reg} {s : State} {k : Word → State → Result} (h : s.readReg i = none) :
    withReg i s k = .fault (.unwrittenRegister i) := by
  simp [withReg, h, raise]

/-- A read of a register goes on with what `readReg` gives. -/
theorem withReg_next {i : Reg} {s t : State} {k : Word → State → Result} (h : withReg i s k = .next t) :
    ∃ v s', s.readReg i = some (v, s') ∧ k v s' = .next t := by
  unfold withReg at h
  split at h
  · exact ⟨_, _, ‹_›, h⟩
  · simp at h

theorem withLookup_next {o : Option Word} {l : Lookup} {t : State} {k : Word → Result} (h : withLookup o l k = .next t) :
    ∃ v, o = some v ∧ k v = .next t := by
  unfold withLookup at h
  split at h
  · exact ⟨_, rfl, h⟩
  · simp at h

/-- An access that goes on was aligned, where that is asked, and admitted. -/
theorem checkAccess_next {strict : Bool} {ea : Word} {n : Nat} {kind : AccessKind} {s t : State} {r : Result}
    (h : checkAccess strict ea n kind s r = .next t) :
    (strict = true → ea.toNat % n = 0) ∧ memAdmit s.plat ea n kind = true ∧ r = .next t := by
  unfold checkAccess at h
  split at h
  · simp at h
  · split at h
    · refine ⟨?_, ‹_›, h⟩
      intro hs
      simp_all
    · simp at h

theorem checkAccess_eq {strict : Bool} {ea : Word} {n : Nat} {kind : AccessKind} {s : State} {r : Result}
    (ha : strict = true → ea.toNat % n = 0) (hm : memAdmit s.plat ea n kind = true) :
    checkAccess strict ea n kind s r = r := by
  cases strict <;> simp_all [checkAccess]

/-! ### Sign extension in the library's spelling -/

@[simp] theorem sext_eq {w n : Nat} (v : BitVec w) : sext n v = v.signExtend n := rfl

@[simp] theorem sext64_eq {w : Nat} (v : BitVec w) : sext64 v = v.signExtend 64 := rfl

@[simp] theorem immOperand_eq (w : Nat) (imm : BitVec 32) : immOperand w imm = imm.signExtend w := rfl

/-! ### The forms of instructions -/

/-- Every arithmetic instruction ends by writing one register that is not R10. -/
theorem aluK_next {w : Nat} {f : BitVec w → BitVec w → BitVec w} {d : Reg} {imm : BitVec 32} {s t : State}
    (h : aluK w f d imm s = .next t) :
    d ≠ .r10 ∧ ∃ a s1, s.readReg d = some (a, s1) ∧
      t = (s1.setReg d (.word (zext64 (f (a.setWidth w) (immOperand w imm))))).advance 1 := by
  obtain ⟨hd, h⟩ := guardDst_next h
  obtain ⟨a, s1, hr, h⟩ := withReg_next h
  exact ⟨hd, a, s1, hr, by simpa [writeResult] using h.symm⟩

theorem aluX_next {w : Nat} {f : BitVec w → BitVec w → BitVec w} {d r : Reg} {s t : State}
    (h : aluX w f d r s = .next t) :
    d ≠ .r10 ∧ ∃ a b s1 s2, s.readReg d = some (a, s1) ∧ s1.readReg r = some (b, s2) ∧
      t = (s2.setReg d (.word (zext64 (f (a.setWidth w) (b.setWidth w))))).advance 1 := by
  obtain ⟨hd, h⟩ := guardDst_next h
  obtain ⟨a, s1, hr, h⟩ := withReg_next h
  obtain ⟨b, s2, hr2, h⟩ := withReg_next h
  exact ⟨hd, a, b, s1, s2, hr, hr2, by simpa [writeResult] using h.symm⟩

theorem aluUnary_next {w : Nat} {f : BitVec w → BitVec w} {d : Reg} {s t : State} (h : aluUnary w f d s = .next t) :
    d ≠ .r10 ∧ ∃ a s1, s.readReg d = some (a, s1) ∧
      t = (s1.setReg d (.word (zext64 (f (a.setWidth w))))).advance 1 := by
  obtain ⟨hd, h⟩ := guardDst_next h
  obtain ⟨a, s1, hr, h⟩ := withReg_next h
  exact ⟨hd, a, s1, hr, by simpa [writeResult] using h.symm⟩

theorem movK_next {w : Nat} {d : Reg} {imm : BitVec 32} {s t : State} (h : movK w d imm s = .next t) :
    d ≠ .r10 ∧ t = (s.setReg d (.word (zext64 (immOperand w imm)))).advance 1 := by
  obtain ⟨hd, h⟩ := guardDst_next h
  exact ⟨hd, by simpa [writeResult] using h.symm⟩

theorem movX_next {w : Nat} {d r : Reg} {s t : State} (h : movX w d r s = .next t) :
    d ≠ .r10 ∧ ∃ b s1, s.readReg r = some (b, s1) ∧
      t = (s1.setReg d (.word (zext64 (b.setWidth w)))).advance 1 := by
  obtain ⟨hd, h⟩ := guardDst_next h
  obtain ⟨b, s1, hr, h⟩ := withReg_next h
  exact ⟨hd, b, s1, hr, by simpa [writeResult] using h.symm⟩

theorem movsx_next {n w : Nat} {d r : Reg} {s t : State} (h : movsx n w d r s = .next t) :
    d ≠ .r10 ∧ ∃ b s1, s.readReg r = some (b, s1) ∧
      t = (s1.setReg d (.word (zext64 (sext w (b.setWidth n))))).advance 1 := by
  obtain ⟨hd, h⟩ := guardDst_next h
  obtain ⟨b, s1, hr, h⟩ := withReg_next h
  exact ⟨hd, b, s1, hr, by simpa [writeResult] using h.symm⟩

theorem branch_next {taken : Bool} {off : BitVec 16} {s t : State} (h : branch taken off s = .next t) :
    t = s.goto (if taken then s.pc + 1 + off.toInt else s.pc + 1) := by
  unfold branch at h
  split at h <;> simp_all [State.advance, State.goto, jumpTarget]

theorem jumpK_next {w : Nat} {c : BitVec w → BitVec w → Bool} {d : Reg} {off : BitVec 16} {imm : BitVec 32}
    {s t : State} (h : jumpK w c d off imm s = .next t) :
    ∃ a s1, s.readReg d = some (a, s1) ∧
      t = s1.goto (if c (a.setWidth w) (immOperand w imm) then s1.pc + 1 + off.toInt else s1.pc + 1) := by
  obtain ⟨a, s1, hr, h⟩ := withReg_next h
  exact ⟨a, s1, hr, branch_next h⟩

theorem jumpX_next {w : Nat} {c : BitVec w → BitVec w → Bool} {d r : Reg} {off : BitVec 16} {s t : State}
    (h : jumpX w c d r off s = .next t) :
    ∃ a b s1 s2, s.readReg d = some (a, s1) ∧ s1.readReg r = some (b, s2) ∧
      t = s2.goto (if c (a.setWidth w) (b.setWidth w) then s2.pc + 1 + off.toInt else s2.pc + 1) := by
  obtain ⟨a, s1, hr, h⟩ := withReg_next h
  obtain ⟨b, s2, hr2, h⟩ := withReg_next h
  exact ⟨a, b, s1, s2, hr, hr2, branch_next h⟩

/-- A load that completes was admitted and writes one register that is not R10. -/
theorem loadX_next {w : Nat} {ext : BitVec w → Word} {d r : Reg} {off : BitVec 16} {s t : State}
    (h : loadX w ext d r off s = .next t) :
    d ≠ .r10 ∧ ∃ b s1, s.readReg r = some (b, s1) ∧
      (s1.plat.strictAlign = true → (effectiveAddress b off).toNat % (w / 8) = 0) ∧
      memAdmit s1.plat (effectiveAddress b off) (w / 8) .read = true ∧
      t = (s1.setReg d (.word (ext (BitVec.ofNat w
        (memRead s1.plat.endian s1.mem (effectiveAddress b off) (w / 8)))))).advance 1 := by
  obtain ⟨hd, h⟩ := guardDst_next h
  obtain ⟨b, s1, hr, h⟩ := withReg_next h
  obtain ⟨ha, hm, h⟩ := checkAccess_next h
  exact ⟨hd, b, s1, hr, ha, hm, by simpa using h.symm⟩

/-- A store that completes was admitted and changes memory and `pc` only. -/
theorem storeAt_next {w : Nat} {ea : Word} {v : BitVec w} {s t : State} (h : storeAt w ea v s = .next t) :
    (s.plat.strictAlign = true → ea.toNat % (w / 8) = 0) ∧ memAdmit s.plat ea (w / 8) .write = true ∧
      t = (s.setMem (memWrite s.plat.endian s.mem ea (w / 8) v.toNat)).advance 1 := by
  obtain ⟨ha, hm, h⟩ := checkAccess_next h
  exact ⟨ha, hm, by simpa using h.symm⟩

theorem storeK_next {w : Nat} {d : Reg} {off : BitVec 16} {imm : BitVec 32} {s t : State}
    (h : storeK w d off imm s = .next t) :
    ∃ a s1, s.readReg d = some (a, s1) ∧
      storeAt w (effectiveAddress a off) ((immOperand 64 imm).setWidth w) s1 = .next t :=
  withReg_next h

theorem storeX_next {w : Nat} {d r : Reg} {off : BitVec 16} {s t : State} (h : storeX w d r off s = .next t) :
    ∃ a b s1 s2, s.readReg d = some (a, s1) ∧ s1.readReg r = some (b, s2) ∧
      storeAt w (effectiveAddress a off) (b.setWidth w) s2 = .next t := by
  obtain ⟨a, s1, hr, h⟩ := withReg_next h
  obtain ⟨b, s2, hr2, h⟩ := withReg_next h
  exact ⟨a, b, s1, s2, hr, hr2, h⟩

/-- An atomic access that goes on was aligned, whatever `STRICT_ALIGN` is, and admitted. -/
theorem atomicAccess_next {w : Nat} {b : Word} {off : BitVec 16} {s t : State} {k : Word → BitVec w → Result}
    (h : atomicAccess w b off s k = .next t) :
    (effectiveAddress b off).toNat % (w / 8) = 0 ∧ memAdmit s.plat (effectiveAddress b off) (w / 8) .atomic = true ∧
      k (effectiveAddress b off)
        (BitVec.ofNat w (memRead s.plat.endian s.mem (effectiveAddress b off) (w / 8))) = .next t := by
  obtain ⟨ha, hm, h⟩ := checkAccess_next h
  exact ⟨ha rfl, hm, h⟩

theorem atomicSimple_next {w : Nat} {f : BitVec w → BitVec w → BitVec w} {d r : Reg} {off : BitVec 16} {s t : State}
    (h : atomicSimple w f d r off s = .next t) :
    ∃ a b s1 s2, s.readReg d = some (a, s1) ∧ s1.readReg r = some (b, s2) ∧
      (effectiveAddress a off).toNat % (w / 8) = 0 ∧
      memAdmit s2.plat (effectiveAddress a off) (w / 8) .atomic = true ∧
      t = (atomicWrite w (effectiveAddress a off) (f (BitVec.ofNat w
        (memRead s2.plat.endian s2.mem (effectiveAddress a off) (w / 8))) (b.setWidth w)) s2).advance 1 := by
  obtain ⟨a, s1, hr, h⟩ := withReg_next h
  obtain ⟨b, s2, hr2, h⟩ := withReg_next h
  obtain ⟨ha, hm, h⟩ := atomicAccess_next h
  exact ⟨a, b, s1, s2, hr, hr2, ha, hm, by simpa using h.symm⟩

theorem atomicFetch_next {w : Nat} {f : BitVec w → BitVec w → BitVec w} {d r : Reg} {off : BitVec 16} {s t : State}
    (h : atomicFetch w f d r off s = .next t) :
    r ≠ .r10 ∧ ∃ a b s1 s2, s.readReg d = some (a, s1) ∧ s1.readReg r = some (b, s2) ∧
      (effectiveAddress a off).toNat % (w / 8) = 0 ∧
      memAdmit s2.plat (effectiveAddress a off) (w / 8) .atomic = true ∧
      t = ((atomicWrite w (effectiveAddress a off) (f (BitVec.ofNat w
        (memRead s2.plat.endian s2.mem (effectiveAddress a off) (w / 8))) (b.setWidth w)) s2).setReg r
          (.word (zext64 (BitVec.ofNat w
            (memRead s2.plat.endian s2.mem (effectiveAddress a off) (w / 8)))))).advance 1 := by
  obtain ⟨hd, h⟩ := guardDst_next h
  obtain ⟨a, s1, hr, h⟩ := withReg_next h
  obtain ⟨b, s2, hr2, h⟩ := withReg_next h
  obtain ⟨ha, hm, h⟩ := atomicAccess_next h
  exact ⟨hd, a, b, s1, s2, hr, hr2, ha, hm, by simpa using h.symm⟩

theorem atomicCmpxchg_next {w : Nat} {d r : Reg} {off : BitVec 16} {s t : State}
    (h : atomicCmpxchg w d r off s = .next t) :
    ∃ a b c s1 s2 s3, s.readReg d = some (a, s1) ∧ s1.readReg r = some (b, s2) ∧ s2.readReg .r0 = some (c, s3) ∧
      (effectiveAddress a off).toNat % (w / 8) = 0 ∧
      memAdmit s3.plat (effectiveAddress a off) (w / 8) .atomic = true ∧
      t = (((if BitVec.ofNat w (memRead s3.plat.endian s3.mem (effectiveAddress a off) (w / 8)) = c.setWidth w
        then atomicWrite w (effectiveAddress a off) (b.setWidth w) s3 else s3).setReg .r0
          (.word (zext64 (BitVec.ofNat w
            (memRead s3.plat.endian s3.mem (effectiveAddress a off) (w / 8)))))).advance 1) := by
  obtain ⟨a, s1, hr, h⟩ := withReg_next h
  obtain ⟨b, s2, hr2, h⟩ := withReg_next h
  obtain ⟨c, s3, hr3, h⟩ := withReg_next h
  obtain ⟨ha, hm, h⟩ := atomicAccess_next h
  exact ⟨a, b, c, s1, s2, s3, hr, hr2, hr3, ha, hm, by simpa using h.symm⟩

/-- A helper call that completes is of a helper the platform has. -/
theorem helperCall_next {known : List (BitVec 32)} {id : BitVec 32} {key : HelperKey} {s t : State}
    (h : helperCall known id key s = .next t) :
    known.contains id = true ∧ t = finishHelper (takeAnswer (callOf key s) s).1 (takeAnswer (callOf key s) s).2 := by
  unfold helperCall at h
  split at h
  · exact ⟨‹_›, by simpa using h.symm⟩
  · simp at h

/-- A program-local call that completes had room on the call stack. -/
theorem localCall_next {d : Int} {s t : State} (h : localCall d s = .next t) :
    s.cs.length < s.plat.maxCallDepth ∧
      t = ((((s.setCs (frameOf s :: s.cs)).clobberSaved).setReg .r10
        (.word (frameTop s.plat (s.cs.length + 1)))).goto (s.pc + 1 + d)) := by
  unfold localCall at h
  split at h
  · simp at h
  · exact ⟨by omega, by simpa [jumpTarget] using h.symm⟩

/-- An exit ends the run or returns to the newest frame. -/
theorem exitProgram_next {s t : State} (h : exitProgram s = .next t) :
    (s.cs = [] ∧ ∃ v s1, s.readReg .r0 = some (v, s1) ∧ t = s1.setStatus (.exited v)) ∨
      ∃ f rest, s.cs = f :: rest ∧ t = returnTo f rest s := by
  unfold exitProgram at h
  split at h
  · obtain ⟨v, s1, hr, h⟩ := withReg_next h
    exact .inl ⟨‹_›, v, s1, hr, by simpa using h.symm⟩
  · exact .inr ⟨_, _, ‹_›, by simpa using h.symm⟩

theorem loadImm64_next {d : Reg} {imm n : BitVec 32} {s t : State} (h : loadImm64 d imm n s = .next t) :
    d ≠ .r10 ∧ t = (s.setReg d (.word (imm64 n imm))).advance 2 := by
  obtain ⟨hd, h⟩ := guardDst_next h
  exact ⟨hd, by simpa [writeWide] using h.symm⟩

theorem loadAddr_next {d : Reg} {o : Option Word} {l : Lookup} {s t : State} (h : loadAddr d o l s = .next t) :
    d ≠ .r10 ∧ ∃ v, o = some v ∧ t = (s.setReg d (.word v)).advance 2 := by
  obtain ⟨hd, h⟩ := guardDst_next h
  obtain ⟨v, ho, h⟩ := withLookup_next h
  exact ⟨hd, v, ho, by simpa [writeWide] using h.symm⟩

theorem loadMapValue_next {d : Reg} {o : Option Word} {l : Lookup} {n : BitVec 32} {s t : State}
    (h : loadMapValue d o l n s = .next t) :
    d ≠ .r10 ∧ n.msb = false ∧ ∃ m v, o = some m ∧ s.plat.mapVal.lookup m = some v ∧
      t = (s.setReg d (.word (v + n.setWidth 64))).advance 2 := by
  obtain ⟨hd, h⟩ := guardDst_next h
  split at h
  · simp at h
  · obtain ⟨m, ho, h⟩ := withLookup_next h
    obtain ⟨v, hv, h⟩ := withLookup_next h
    exact ⟨hd, by simpa using ‹¬n.msb = true›, m, v, ho, hv, by simpa [writeWide] using h.symm⟩

end Sys2Proof.Machine
end

