-- ==== Sys2Proof/Laws/PerInstr.lean ====
section
/-! SUPPORT. Families of statements made instruction by instruction. -/

namespace Sys2Proof.Laws.WideIffOpcode18

/-- 30_encoding.md R87: "The length is decided by the `opcode` byte of the first slot alone": the encoding of an
instruction has a second slot exactly when its opcode is 0x18. -/
def Statement (i : Instr) : Prop :=
  (encodeParts i).2.isSome = ((encodeParts i).1.opcode == 0x18#8)

theorem add64K (dst : Reg) (imm : BitVec 32) : Statement (.add64K dst imm) := rfl
theorem add64X (dst : Reg) (src : Reg) : Statement (.add64X dst src) := rfl
theorem sub64K (dst : Reg) (imm : BitVec 32) : Statement (.sub64K dst imm) := rfl
theorem sub64X (dst : Reg) (src : Reg) : Statement (.sub64X dst src) := rfl
theorem mul64K (dst : Reg) (imm : BitVec 32) : Statement (.mul64K dst imm) := rfl
theorem mul64X (dst : Reg) (src : Reg) : Statement (.mul64X dst src) := rfl
theorem div64K (dst : Reg) (imm : BitVec 32) : Statement (.div64K dst imm) := rfl
theorem div64X (dst : Reg) (src : Reg) : Statement (.div64X dst src) := rfl
theorem sdiv64K (dst : Reg) (imm : BitVec 32) : Statement (.sdiv64K dst imm) := rfl
theorem sdiv64X (dst : Reg) (src : Reg) : Statement (.sdiv64X dst src) := rfl
theorem or64K (dst : Reg) (imm : BitVec 32) : Statement (.or64K dst imm) := rfl
theorem or64X (dst : Reg) (src : Reg) : Statement (.or64X dst src) := rfl
theorem and64K (dst : Reg) (imm : BitVec 32) : Statement (.and64K dst imm) := rfl
theorem and64X (dst : Reg) (src : Reg) : Statement (.and64X dst src) := rfl
theorem lsh64K (dst : Reg) (imm : BitVec 32) : Statement (.lsh64K dst imm) := rfl
theorem lsh64X (dst : Reg) (src : Reg) : Statement (.lsh64X dst src) := rfl
theorem rsh64K (dst : Reg) (imm : BitVec 32) : Statement (.rsh64K dst imm) := rfl
theorem rsh64X (dst : Reg) (src : Reg) : Statement (.rsh64X dst src) := rfl
theorem mod64K (dst : Reg) (imm : BitVec 32) : Statement (.mod64K dst imm) := rfl
theorem mod64X (dst : Reg) (src : Reg) : Statement (.mod64X dst src) := rfl
theorem smod64K (dst : Reg) (imm : BitVec 32) : Statement (.smod64K dst imm) := rfl
theorem smod64X (dst : Reg) (src : Reg) : Statement (.smod64X dst src) := rfl
theorem xor64K (dst : Reg) (imm : BitVec 32) : Statement (.xor64K dst imm) := rfl
theorem xor64X (dst : Reg) (src : Reg) : Statement (.xor64X dst src) := rfl
theorem arsh64K (dst : Reg) (imm : BitVec 32) : Statement (.arsh64K dst imm) := rfl
theorem arsh64X (dst : Reg) (src : Reg) : Statement (.arsh64X dst src) := rfl
theorem neg64 (dst : Reg) : Statement (.neg64 dst) := rfl
theorem mov64K (dst : Reg) (imm : BitVec 32) : Statement (.mov64K dst imm) := rfl
theorem mov64X (dst : Reg) (src : Reg) : Statement (.mov64X dst src) := rfl
theorem movsx8to64 (dst : Reg) (src : Reg) : Statement (.movsx8to64 dst src) := rfl
theorem movsx16to64 (dst : Reg) (src : Reg) : Statement (.movsx16to64 dst src) := rfl
theorem movsx32to64 (dst : Reg) (src : Reg) : Statement (.movsx32to64 dst src) := rfl
theorem add32K (dst : Reg) (imm : BitVec 32) : Statement (.add32K dst imm) := rfl
theorem add32X (dst : Reg) (src : Reg) : Statement (.add32X dst src) := rfl
theorem sub32K (dst : Reg) (imm : BitVec 32) : Statement (.sub32K dst imm) := rfl
theorem sub32X (dst : Reg) (src : Reg) : Statement (.sub32X dst src) := rfl
theorem mul32K (dst : Reg) (imm : BitVec 32) : Statement (.mul32K dst imm) := rfl
theorem mul32X (dst : Reg) (src : Reg) : Statement (.mul32X dst src) := rfl
theorem div32K (dst : Reg) (imm : BitVec 32) : Statement (.div32K dst imm) := rfl
theorem div32X (dst : Reg) (src : Reg) : Statement (.div32X dst src) := rfl
theorem sdiv32K (dst : Reg) (imm : BitVec 32) : Statement (.sdiv32K dst imm) := rfl
theorem sdiv32X (dst : Reg) (src : Reg) : Statement (.sdiv32X dst src) := rfl
theorem or32K (dst : Reg) (imm : BitVec 32) : Statement (.or32K dst imm) := rfl
theorem or32X (dst : Reg) (src : Reg) : Statement (.or32X dst src) := rfl
theorem and32K (dst : Reg) (imm : BitVec 32) : Statement (.and32K dst imm) := rfl
theorem and32X (dst : Reg) (src : Reg) : Statement (.and32X dst src) := rfl
theorem lsh32K (dst : Reg) (imm : BitVec 32) : Statement (.lsh32K dst imm) := rfl
theorem lsh32X (dst : Reg) (src : Reg) : Statement (.lsh32X dst src) := rfl
theorem rsh32K (dst : Reg) (imm : BitVec 32) : Statement (.rsh32K dst imm) := rfl
theorem rsh32X (dst : Reg) (src : Reg) : Statement (.rsh32X dst src) := rfl
theorem mod32K (dst : Reg) (imm : BitVec 32) : Statement (.mod32K dst imm) := rfl
theorem mod32X (dst : Reg) (src : Reg) : Statement (.mod32X dst src) := rfl
theorem smod32K (dst : Reg) (imm : BitVec 32) : Statement (.smod32K dst imm) := rfl
theorem smod32X (dst : Reg) (src : Reg) : Statement (.smod32X dst src) := rfl
theorem xor32K (dst : Reg) (imm : BitVec 32) : Statement (.xor32K dst imm) := rfl
theorem xor32X (dst : Reg) (src : Reg) : Statement (.xor32X dst src) := rfl
theorem arsh32K (dst : Reg) (imm : BitVec 32) : Statement (.arsh32K dst imm) := rfl
theorem arsh32X (dst : Reg) (src : Reg) : Statement (.arsh32X dst src) := rfl
theorem neg32 (dst : Reg) : Statement (.neg32 dst) := rfl
theorem mov32K (dst : Reg) (imm : BitVec 32) : Statement (.mov32K dst imm) := rfl
theorem mov32X (dst : Reg) (src : Reg) : Statement (.mov32X dst src) := rfl
theorem movsx8to32 (dst : Reg) (src : Reg) : Statement (.movsx8to32 dst src) := rfl
theorem movsx16to32 (dst : Reg) (src : Reg) : Statement (.movsx16to32 dst src) := rfl
theorem toLe16 (dst : Reg) : Statement (.toLe16 dst) := rfl
theorem toLe32 (dst : Reg) : Statement (.toLe32 dst) := rfl
theorem toLe64 (dst : Reg) : Statement (.toLe64 dst) := rfl
theorem toBe16 (dst : Reg) : Statement (.toBe16 dst) := rfl
theorem toBe32 (dst : Reg) : Statement (.toBe32 dst) := rfl
theorem toBe64 (dst : Reg) : Statement (.toBe64 dst) := rfl
theorem bswap16 (dst : Reg) : Statement (.bswap16 dst) := rfl
theorem bswap32 (dst : Reg) : Statement (.bswap32 dst) := rfl
theorem bswap64 (dst : Reg) : Statement (.bswap64 dst) := rfl
theorem ja (off : BitVec 16) : Statement (.ja off) := rfl
theorem ja32 (imm : BitVec 32) : Statement (.ja32 imm) := rfl
theorem jeq64K (dst : Reg) (off : BitVec 16) (imm : BitVec 32) : Statement (.jeq64K dst off imm) := rfl
theorem jeq64X (dst : Reg) (src : Reg) (off : BitVec 16) : Statement (.jeq64X dst src off) := rfl
theorem jgt64K (dst : Reg) (off : BitVec 16) (imm : BitVec 32) : Statement (.jgt64K dst off imm) := rfl
theorem jgt64X (dst : Reg) (src : Reg) (off : BitVec 16) : Statement (.jgt64X dst src off) := rfl
theorem jge64K (dst : Reg) (off : BitVec 16) (imm : BitVec 32) : Statement (.jge64K dst off imm) := rfl
theorem jge64X (dst : Reg) (src : Reg) (off : BitVec 16) : Statement (.jge64X dst src off) := rfl
theorem jset64K (dst : Reg) (off : BitVec 16) (imm : BitVec 32) : Statement (.jset64K dst off imm) := rfl
theorem jset64X (dst : Reg) (src : Reg) (off : BitVec 16) : Statement (.jset64X dst src off) := rfl
theorem jne64K (dst : Reg) (off : BitVec 16) (imm : BitVec 32) : Statement (.jne64K dst off imm) := rfl
theorem jne64X (dst : Reg) (src : Reg) (off : BitVec 16) : Statement (.jne64X dst src off) := rfl
theorem jsgt64K (dst : Reg) (off : BitVec 16) (imm : BitVec 32) : Statement (.jsgt64K dst off imm) := rfl
theorem jsgt64X (dst : Reg) (src : Reg) (off : BitVec 16) : Statement (.jsgt64X dst src off) := rfl
theorem jsge64K (dst : Reg) (off : BitVec 16) (imm : BitVec 32) : Statement (.jsge64K dst off imm) := rfl
theorem jsge64X (dst : Reg) (src : Reg) (off : BitVec 16) : Statement (.jsge64X dst src off) := rfl
theorem jlt64K (dst : Reg) (off : BitVec 16) (imm : BitVec 32) : Statement (.jlt64K dst off imm) := rfl
theorem jlt64X (dst : Reg) (src : Reg) (off : BitVec 16) : Statement (.jlt64X dst src off) := rfl
theorem jle64K (dst : Reg) (off : BitVec 16) (imm : BitVec 32) : Statement (.jle64K dst off imm) := rfl
theorem jle64X (dst : Reg) (src : Reg) (off : BitVec 16) : Statement (.jle64X dst src off) := rfl
theorem jslt64K (dst : Reg) (off : BitVec 16) (imm : BitVec 32) : Statement (.jslt64K dst off imm) := rfl
theorem jslt64X (dst : Reg) (src : Reg) (off : BitVec 16) : Statement (.jslt64X dst src off) := rfl
theorem jsle64K (dst : Reg) (off : BitVec 16) (imm : BitVec 32) : Statement (.jsle64K dst off imm) := rfl
theorem jsle64X (dst : Reg) (src : Reg) (off : BitVec 16) : Statement (.jsle64X dst src off) := rfl
theorem jeq32K (dst : Reg) (off : BitVec 16) (imm : BitVec 32) : Statement (.jeq32K dst off imm) := rfl
theorem jeq32X (dst : Reg) (src : Reg) (off : BitVec 16) : Statement (.jeq32X dst src off) := rfl
theorem jgt32K (dst : Reg) (off : BitVec 16) (imm : BitVec 32) : Statement (.jgt32K dst off imm) := rfl
theorem jgt32X (dst : Reg) (src : Reg) (off : BitVec 16) : Statement (.jgt32X dst src off) := rfl
theorem jge32K (dst : Reg) (off : BitVec 16) (imm : BitVec 32) : Statement (.jge32K dst off imm) := rfl
theorem jge32X (dst : Reg) (src : Reg) (off : BitVec 16) : Statement (.jge32X dst src off) := rfl
theorem jset32K (dst : Reg) (off : BitVec 16) (imm : BitVec 32) : Statement (.jset32K dst off imm) := rfl
theorem jset32X (dst : Reg) (src : Reg) (off : BitVec 16) : Statement (.jset32X dst src off) := rfl
theorem jne32K (dst : Reg) (off : BitVec 16) (imm : BitVec 32) : Statement (.jne32K dst off imm) := rfl
theorem jne32X (dst : Reg) (src : Reg) (off : BitVec 16) : Statement (.jne32X dst src off) := rfl
theorem jsgt32K (dst : Reg) (off : BitVec 16) (imm : BitVec 32) : Statement (.jsgt32K dst off imm) := rfl
theorem jsgt32X (dst : Reg) (src : Reg) (off : BitVec 16) : Statement (.jsgt32X dst src off) := rfl
theorem jsge32K (dst : Reg) (off : BitVec 16) (imm : BitVec 32) : Statement (.jsge32K dst off imm) := rfl
theorem jsge32X (dst : Reg) (src : Reg) (off : BitVec 16) : Statement (.jsge32X dst src off) := rfl
theorem jlt32K (dst : Reg) (off : BitVec 16) (imm : BitVec 32) : Statement (.jlt32K dst off imm) := rfl
theorem jlt32X (dst : Reg) (src : Reg) (off : BitVec 16) : Statement (.jlt32X dst src off) := rfl
theorem jle32K (dst : Reg) (off : BitVec 16) (imm : BitVec 32) : Statement (.jle32K dst off imm) := rfl
theorem jle32X (dst : Reg) (src : Reg) (off : BitVec 16) : Statement (.jle32X dst src off) := rfl
theorem jslt32K (dst : Reg) (off : BitVec 16) (imm : BitVec 32) : Statement (.jslt32K dst off imm) := rfl
theorem jslt32X (dst : Reg) (src : Reg) (off : BitVec 16) : Statement (.jslt32X dst src off) := rfl
theorem jsle32K (dst : Reg) (off : BitVec 16) (imm : BitVec 32) : Statement (.jsle32K dst off imm) := rfl
theorem jsle32X (dst : Reg) (src : Reg) (off : BitVec 16) : Statement (.jsle32X dst src off) := rfl
theorem callHelper (imm : BitVec 32) : Statement (.callHelper imm) := rfl
theorem callLocal (imm : BitVec 32) : Statement (.callLocal imm) := rfl
theorem callBtf (imm : BitVec 32) : Statement (.callBtf imm) := rfl
theorem exit : Statement (.exit) := rfl
theorem ldxW (dst : Reg) (src : Reg) (off : BitVec 16) : Statement (.ldxW dst src off) := rfl
theorem ldxH (dst : Reg) (src : Reg) (off : BitVec 16) : Statement (.ldxH dst src off) := rfl
theorem ldxB (dst : Reg) (src : Reg) (off : BitVec 16) : Statement (.ldxB dst src off) := rfl
theorem ldxDW (dst : Reg) (src : Reg) (off : BitVec 16) : Statement (.ldxDW dst src off) := rfl
theorem ldxsW (dst : Reg) (src : Reg) (off : BitVec 16) : Statement (.ldxsW dst src off) := rfl
theorem ldxsH (dst : Reg) (src : Reg) (off : BitVec 16) : Statement (.ldxsH dst src off) := rfl
theorem ldxsB (dst : Reg) (src : Reg) (off : BitVec 16) : Statement (.ldxsB dst src off) := rfl
theorem stW (dst : Reg) (off : BitVec 16) (imm : BitVec 32) : Statement (.stW dst off imm) := rfl
theorem stH (dst : Reg) (off : BitVec 16) (imm : BitVec 32) : Statement (.stH dst off imm) := rfl
theorem stB (dst : Reg) (off : BitVec 16) (imm : BitVec 32) : Statement (.stB dst off imm) := rfl
theorem stDW (dst : Reg) (off : BitVec 16) (imm : BitVec 32) : Statement (.stDW dst off imm) := rfl
theorem stxW (dst : Reg) (src : Reg) (off : BitVec 16) : Statement (.stxW dst src off) := rfl
theorem stxH (dst : Reg) (src : Reg) (off : BitVec 16) : Statement (.stxH dst src off) := rfl
theorem stxB (dst : Reg) (src : Reg) (off : BitVec 16) : Statement (.stxB dst src off) := rfl
theorem stxDW (dst : Reg) (src : Reg) (off : BitVec 16) : Statement (.stxDW dst src off) := rfl
theorem atomicAdd32 (dst : Reg) (src : Reg) (off : BitVec 16) : Statement (.atomicAdd32 dst src off) := rfl
theorem fetchAdd32 (dst : Reg) (src : Reg) (off : BitVec 16) : Statement (.fetchAdd32 dst src off) := rfl
theorem atomicOr32 (dst : Reg) (src : Reg) (off : BitVec 16) : Statement (.atomicOr32 dst src off) := rfl
theorem fetchOr32 (dst : Reg) (src : Reg) (off : BitVec 16) : Statement (.fetchOr32 dst src off) := rfl
theorem atomicAnd32 (dst : Reg) (src : Reg) (off : BitVec 16) : Statement (.atomicAnd32 dst src off) := rfl
theorem fetchAnd32 (dst : Reg) (src : Reg) (off : BitVec 16) : Statement (.fetchAnd32 dst src off) := rfl
theorem atomicXor32 (dst : Reg) (src : Reg) (off : BitVec 16) : Statement (.atomicXor32 dst src off) := rfl
theorem fetchXor32 (dst : Reg) (src : Reg) (off : BitVec 16) : Statement (.fetchXor32 dst src off) := rfl
theorem xchg32 (dst : Reg) (src : Reg) (off : BitVec 16) : Statement (.xchg32 dst src off) := rfl
theorem cmpxchg32 (dst : Reg) (src : Reg) (off : BitVec 16) : Statement (.cmpxchg32 dst src off) := rfl
theorem atomicAdd64 (dst : Reg) (src : Reg) (off : BitVec 16) : Statement (.atomicAdd64 dst src off) := rfl
theorem fetchAdd64 (dst : Reg) (src : Reg) (off : BitVec 16) : Statement (.fetchAdd64 dst src off) := rfl
theorem atomicOr64 (dst : Reg) (src : Reg) (off : BitVec 16) : Statement (.atomicOr64 dst src off) := rfl
theorem fetchOr64 (dst : Reg) (src : Reg) (off : BitVec 16) : Statement (.fetchOr64 dst src off) := rfl
theorem atomicAnd64 (dst : Reg) (src : Reg) (off : BitVec 16) : Statement (.atomicAnd64 dst src off) := rfl
theorem fetchAnd64 (dst : Reg) (src : Reg) (off : BitVec 16) : Statement (.fetchAnd64 dst src off) := rfl
theorem atomicXor64 (dst : Reg) (src : Reg) (off : BitVec 16) : Statement (.atomicXor64 dst src off) := rfl
theorem fetchXor64 (dst : Reg) (src : Reg) (off : BitVec 16) : Statement (.fetchXor64 dst src off) := rfl
theorem xchg64 (dst : Reg) (src : Reg) (off : BitVec 16) : Statement (.xchg64 dst src off) := rfl
theorem cmpxchg64 (dst : Reg) (src : Reg) (off : BitVec 16) : Statement (.cmpxchg64 dst src off) := rfl
theorem ldImm64 (dst : Reg) (imm : BitVec 32) (next : BitVec 32) : Statement (.ldImm64 dst imm next) := rfl
theorem ldMapFd (dst : Reg) (imm : BitVec 32) : Statement (.ldMapFd dst imm) := rfl
theorem ldMapFdVal (dst : Reg) (imm : BitVec 32) (next : BitVec 32) : Statement (.ldMapFdVal dst imm next) := rfl
theorem ldVarAddr (dst : Reg) (imm : BitVec 32) : Statement (.ldVarAddr dst imm) := rfl
theorem ldCodeAddr (dst : Reg) (imm : BitVec 32) : Statement (.ldCodeAddr dst imm) := rfl
theorem ldMapIdx (dst : Reg) (imm : BitVec 32) : Statement (.ldMapIdx dst imm) := rfl
theorem ldMapIdxVal (dst : Reg) (imm : BitVec 32) (next : BitVec 32) : Statement (.ldMapIdxVal dst imm next) := rfl
theorem ldAbsW (dst : BitVec 4) (src : BitVec 4) (off : BitVec 16) (imm : BitVec 32) : Statement (.ldAbsW dst src off imm) := rfl
theorem ldAbsH (dst : BitVec 4) (src : BitVec 4) (off : BitVec 16) (imm : BitVec 32) : Statement (.ldAbsH dst src off imm) := rfl
theorem ldAbsB (dst : BitVec 4) (src : BitVec 4) (off : BitVec 16) (imm : BitVec 32) : Statement (.ldAbsB dst src off imm) := rfl
theorem ldAbsDW (dst : BitVec 4) (src : BitVec 4) (off : BitVec 16) (imm : BitVec 32) : Statement (.ldAbsDW dst src off imm) := rfl
theorem ldIndW (dst : BitVec 4) (src : BitVec 4) (off : BitVec 16) (imm : BitVec 32) : Statement (.ldIndW dst src off imm) := rfl
theorem ldIndH (dst : BitVec 4) (src : BitVec 4) (off : BitVec 16) (imm : BitVec 32) : Statement (.ldIndH dst src off imm) := rfl
theorem ldIndB (dst : BitVec 4) (src : BitVec 4) (off : BitVec 16) (imm : BitVec 32) : Statement (.ldIndB dst src off imm) := rfl
theorem ldIndDW (dst : BitVec 4) (src : BitVec 4) (off : BitVec 16) (imm : BitVec 32) : Statement (.ldIndDW dst src off imm) := rfl

end Sys2Proof.Laws.WideIffOpcode18
end

