-- ==== Sys2Proof/Tests/Slice0.lean ====
section
/-! SUPPORT. Tests: ill-formed terms, words of the spec, vectors of 95_test_vectors.md, and for each statement with
hypotheses the values that meet them. Byte lists are in memory order, lowest address first. -/

namespace Sys2Proof.Tests

open Sys2Proof.Machine

/-! ### The bench -/

/-- A slot from its eight bytes. -/
def slotAtByte (bs : List Nat) (k : Nat) : Slot :=
  let b (j : Nat) : Byte := BitVec.ofNat 8 (bs.getD (8 * k + j) 0)
  ⟨b 0, b 1, b 2, b 3, b 4, b 5, b 6, b 7⟩

/-- The instruction in these bytes. -/
def dec (e : Endian) (bs : List Nat) : Except Reject Instr :=
  decode e (slotAtByte bs 0) (if 8 < bs.length then some (slotAtByte bs 1) else none)

/-- Whether each byte list decodes to the instruction beside it. -/
def decodesTo (e : Endian) (l : List (List Nat × Instr)) : Bool := l.all fun p => dec e p.1 == .ok p.2

/-- The 16 bytes at 0x1000 of 95_test_vectors.md section 2.4. -/
def bytes16 : List Nat :=
  [0x88, 0x77, 0x66, 0x55, 0x44, 0x33, 0x22, 0x11, 0xf0, 0xde, 0xbc, 0x9a, 0x78, 0x56, 0x34, 0x12]

/-- Bytes from address 0x1000 up. -/
def memoryAt1000 (bs : List Nat) : Memory := bs.mapIdx fun i b => (0x1000 + i, BitVec.ofNat 8 b)

/-- The platform of 95_test_vectors.md sections 2.4 to 2.8: 16 bytes at 0x1000, `HelperByAddr(1)`, `MapByFd(5)`,
`MapByIdx(0)`, `MapVal(0x2000)`, `VarAddr(7)`, `CodeAddr(2, 3)`. -/
def bench : Platform :=
  { Config.defaultPlatform with
    unwrittenRead := .fault, regions := [⟨0x1000, 16, true, true, true⟩], helpersByAddr := [1], helpersByBtf := [7],
    mapByFd := [(5, 0x2000)], mapByIdx := [(0, 0x2000)], mapVal := [(0x2000, 0x3000)], varAddr := [(7, 0x4000)],
    codeAddr := [((2, 3), 0x9000)] }

/-- Registers with these values, every other one unwritten. -/
def regsOf (l : List (Reg × Nat)) : RegFile :=
  l.foldl (fun f p => f.set p.1 (.word (BitVec.ofNat 64 p.2)))
    ⟨.unwritten, .unwritten, .unwritten, .unwritten, .unwritten, .unwritten, .unwritten, .unwritten, .unwritten,
      .unwritten, .unwritten⟩

/-- The bench with a program of one or two slots at index `pc` and these registers. -/
def start (p : Platform) (pc : Nat) (bs : List Nat) (l : List (Reg × Nat)) : State :=
  let z : Slot := ⟨0, 0, 0, 0, 0, 0, 0, 0⟩
  let prog := List.replicate pc z ++ (List.range ((bs.length + 7) / 8)).map (slotAtByte bs)
  { State.launch p prog (memoryAt1000 bytes16) with regs := regsOf l, pc := pc }

/-- Whether one step leads to these registers, this `pc` and these 16 bytes. -/
def leadsTo (s : State) (l : List (Reg × Nat)) (pc : Int) (mem : List Nat) : Bool :=
  match step s with
  | .next t =>
    l.all (fun p => t.regs.get p.1 == .word (BitVec.ofNat 64 p.2)) && t.pc == pc && t.mem == memoryAt1000 mem
  | _ => false

/-- Whether one step ends in this fault. -/
def endsIn (s : State) (f : Fault) : Bool :=
  match step s with
  | .fault g => g == f
  | _ => false

/-- A vector: bytes, registers before, registers after. -/
abbrev RegVector := List Nat × List (Reg × Nat) × List (Reg × Nat)

/-- Whether each vector comes out, `pc` going to `pc1`. -/
def vectors (p : Platform) (pc pc1 : Nat) (l : List RegVector) : Bool :=
  l.all fun v => leadsTo (start p pc v.1 v.2.1) v.2.2 pc1 bytes16

/-- Jumps at slot 10 of 95_test_vectors.md section 2.3: bytes, registers, `pc` after. -/
def jumps (l : List (List Nat × List (Reg × Nat) × Int)) : Bool :=
  l.all fun v => leadsTo (start bench 10 v.1 v.2.1) v.2.1 v.2.2 bytes16

/-- Stores and atomics: bytes, registers before and after, the 16 bytes after. -/
def stores (l : List (List Nat × List (Reg × Nat) × List (Reg × Nat) × List Nat)) : Bool :=
  l.all fun v => leadsTo (start bench 0 v.1 v.2.1) v.2.2.1 1 v.2.2.2

/-! ### Terms that no encoding stands for: each check of `wellFormed` refuses one -/

theorem test_illFormed_alu_writes_r10 : (Instr.add64K .r10 8).wellFormed = false := by decide
theorem test_illFormed_mov_writes_r10 : (Instr.mov32X .r10 .r1).wellFormed = false := by decide
theorem test_illFormed_swap_writes_r10 : (Instr.bswap64 .r10).wellFormed = false := by decide
theorem test_illFormed_load_writes_r10 : (Instr.ldxsB .r10 .r1 0).wellFormed = false := by decide
theorem test_illFormed_fetch_writes_r10 : (Instr.fetchAdd64 .r1 .r10 0).wellFormed = false := by decide
theorem test_illFormed_xchg_writes_r10 : (Instr.xchg32 .r1 .r10 0).wellFormed = false := by decide
theorem test_illFormed_imm64_writes_r10 : (Instr.ldImm64 .r10 1 0).wellFormed = false := by decide
theorem test_illFormed_addend_of_map_fd : (Instr.ldMapFdVal .r1 5 0x80000000).wellFormed = false := by decide
theorem test_illFormed_addend_of_map_idx : (Instr.ldMapIdxVal .r1 5 0x80000000).wellFormed = false := by decide
/-- Reading R10 is no reason to refuse: stores through R10, its atomic operand and its copy are well formed. -/
theorem test_wellFormed_reads_r10 :
    (Instr.stxDW .r10 .r10 0xfff8).wellFormed && (Instr.atomicAdd64 .r1 .r10 0).wellFormed &&
      (Instr.cmpxchg64 .r10 .r10 0).wellFormed && (Instr.mov64X .r1 .r10).wellFormed = true := by decide

/-! ### Every constructor's word, from the opcode table (30_encoding.md R61, R70 to R78): dst 1, src 2 (a selector where
the table says so), offset 0x8304, imm 0x81220344, next_imm 0x11223344 -/

theorem test_decode_alu641 : decodesTo .little [
    ([0x07, 0x01, 0x00, 0x00, 0x44, 0x03, 0x22, 0x81], .add64K .r1 0x81220344),
    ([0x0f, 0x21, 0x00, 0x00, 0x00, 0x00, 0x00, 0x00], .add64X .r1 .r2),
    ([0x17, 0x01, 0x00, 0x00, 0x44, 0x03, 0x22, 0x81], .sub64K .r1 0x81220344),
    ([0x1f, 0x21, 0x00, 0x00, 0x00, 0x00, 0x00, 0x00], .sub64X .r1 .r2),
    ([0x27, 0x01, 0x00, 0x00, 0x44, 0x03, 0x22, 0x81], .mul64K .r1 0x81220344),
    ([0x2f, 0x21, 0x00, 0x00, 0x00, 0x00, 0x00, 0x00], .mul64X .r1 .r2),
    ([0x37, 0x01, 0x00, 0x00, 0x44, 0x03, 0x22, 0x81], .div64K .r1 0x81220344),
    ([0x3f, 0x21, 0x00, 0x00, 0x00, 0x00, 0x00, 0x00], .div64X .r1 .r2),
    ([0x37, 0x01, 0x01, 0x00, 0x44, 0x03, 0x22, 0x81], .sdiv64K .r1 0x81220344),
    ([0x3f, 0x21, 0x01, 0x00, 0x00, 0x00, 0x00, 0x00], .sdiv64X .r1 .r2),
    ([0x47, 0x01, 0x00, 0x00, 0x44, 0x03, 0x22, 0x81], .or64K .r1 0x81220344),
    ([0x4f, 0x21, 0x00, 0x00, 0x00, 0x00, 0x00, 0x00], .or64X .r1 .r2),
    ([0x57, 0x01, 0x00, 0x00, 0x44, 0x03, 0x22, 0x81], .and64K .r1 0x81220344),
    ([0x5f, 0x21, 0x00, 0x00, 0x00, 0x00, 0x00, 0x00], .and64X .r1 .r2),
    ([0x67, 0x01, 0x00, 0x00, 0x44, 0x03, 0x22, 0x81], .lsh64K .r1 0x81220344),
    ([0x6f, 0x21, 0x00, 0x00, 0x00, 0x00, 0x00, 0x00], .lsh64X .r1 .r2),
    ([0x77, 0x01, 0x00, 0x00, 0x44, 0x03, 0x22, 0x81], .rsh64K .r1 0x81220344),
    ([0x7f, 0x21, 0x00, 0x00, 0x00, 0x00, 0x00, 0x00], .rsh64X .r1 .r2),
    ([0x97, 0x01, 0x00, 0x00, 0x44, 0x03, 0x22, 0x81], .mod64K .r1 0x81220344),
    ([0x9f, 0x21, 0x00, 0x00, 0x00, 0x00, 0x00, 0x00], .mod64X .r1 .r2),
    ([0x97, 0x01, 0x01, 0x00, 0x44, 0x03, 0x22, 0x81], .smod64K .r1 0x81220344),
    ([0x9f, 0x21, 0x01, 0x00, 0x00, 0x00, 0x00, 0x00], .smod64X .r1 .r2),
    ([0xa7, 0x01, 0x00, 0x00, 0x44, 0x03, 0x22, 0x81], .xor64K .r1 0x81220344),
    ([0xaf, 0x21, 0x00, 0x00, 0x00, 0x00, 0x00, 0x00], .xor64X .r1 .r2)] = true := by decide

theorem test_decode_alu642 : decodesTo .little [
    ([0xc7, 0x01, 0x00, 0x00, 0x44, 0x03, 0x22, 0x81], .arsh64K .r1 0x81220344),
    ([0xcf, 0x21, 0x00, 0x00, 0x00, 0x00, 0x00, 0x00], .arsh64X .r1 .r2),
    ([0x87, 0x01, 0x00, 0x00, 0x00, 0x00, 0x00, 0x00], .neg64 .r1),
    ([0xb7, 0x01, 0x00, 0x00, 0x44, 0x03, 0x22, 0x81], .mov64K .r1 0x81220344),
    ([0xbf, 0x21, 0x00, 0x00, 0x00, 0x00, 0x00, 0x00], .mov64X .r1 .r2),
    ([0xbf, 0x21, 0x08, 0x00, 0x00, 0x00, 0x00, 0x00], .movsx8to64 .r1 .r2),
    ([0xbf, 0x21, 0x10, 0x00, 0x00, 0x00, 0x00, 0x00], .movsx16to64 .r1 .r2),
    ([0xbf, 0x21, 0x20, 0x00, 0x00, 0x00, 0x00, 0x00], .movsx32to64 .r1 .r2)] = true := by decide

theorem test_decode_alu321 : decodesTo .little [
    ([0x04, 0x01, 0x00, 0x00, 0x44, 0x03, 0x22, 0x81], .add32K .r1 0x81220344),
    ([0x0c, 0x21, 0x00, 0x00, 0x00, 0x00, 0x00, 0x00], .add32X .r1 .r2),
    ([0x14, 0x01, 0x00, 0x00, 0x44, 0x03, 0x22, 0x81], .sub32K .r1 0x81220344),
    ([0x1c, 0x21, 0x00, 0x00, 0x00, 0x00, 0x00, 0x00], .sub32X .r1 .r2),
    ([0x24, 0x01, 0x00, 0x00, 0x44, 0x03, 0x22, 0x81], .mul32K .r1 0x81220344),
    ([0x2c, 0x21, 0x00, 0x00, 0x00, 0x00, 0x00, 0x00], .mul32X .r1 .r2),
    ([0x34, 0x01, 0x00, 0x00, 0x44, 0x03, 0x22, 0x81], .div32K .r1 0x81220344),
    ([0x3c, 0x21, 0x00, 0x00, 0x00, 0x00, 0x00, 0x00], .div32X .r1 .r2),
    ([0x34, 0x01, 0x01, 0x00, 0x44, 0x03, 0x22, 0x81], .sdiv32K .r1 0x81220344),
    ([0x3c, 0x21, 0x01, 0x00, 0x00, 0x00, 0x00, 0x00], .sdiv32X .r1 .r2),
    ([0x44, 0x01, 0x00, 0x00, 0x44, 0x03, 0x22, 0x81], .or32K .r1 0x81220344),
    ([0x4c, 0x21, 0x00, 0x00, 0x00, 0x00, 0x00, 0x00], .or32X .r1 .r2),
    ([0x54, 0x01, 0x00, 0x00, 0x44, 0x03, 0x22, 0x81], .and32K .r1 0x81220344),
    ([0x5c, 0x21, 0x00, 0x00, 0x00, 0x00, 0x00, 0x00], .and32X .r1 .r2),
    ([0x64, 0x01, 0x00, 0x00, 0x44, 0x03, 0x22, 0x81], .lsh32K .r1 0x81220344),
    ([0x6c, 0x21, 0x00, 0x00, 0x00, 0x00, 0x00, 0x00], .lsh32X .r1 .r2),
    ([0x74, 0x01, 0x00, 0x00, 0x44, 0x03, 0x22, 0x81], .rsh32K .r1 0x81220344),
    ([0x7c, 0x21, 0x00, 0x00, 0x00, 0x00, 0x00, 0x00], .rsh32X .r1 .r2),
    ([0x94, 0x01, 0x00, 0x00, 0x44, 0x03, 0x22, 0x81], .mod32K .r1 0x81220344),
    ([0x9c, 0x21, 0x00, 0x00, 0x00, 0x00, 0x00, 0x00], .mod32X .r1 .r2),
    ([0x94, 0x01, 0x01, 0x00, 0x44, 0x03, 0x22, 0x81], .smod32K .r1 0x81220344),
    ([0x9c, 0x21, 0x01, 0x00, 0x00, 0x00, 0x00, 0x00], .smod32X .r1 .r2),
    ([0xa4, 0x01, 0x00, 0x00, 0x44, 0x03, 0x22, 0x81], .xor32K .r1 0x81220344),
    ([0xac, 0x21, 0x00, 0x00, 0x00, 0x00, 0x00, 0x00], .xor32X .r1 .r2)] = true := by decide

theorem test_decode_alu322 : decodesTo .little [
    ([0xc4, 0x01, 0x00, 0x00, 0x44, 0x03, 0x22, 0x81], .arsh32K .r1 0x81220344),
    ([0xcc, 0x21, 0x00, 0x00, 0x00, 0x00, 0x00, 0x00], .arsh32X .r1 .r2),
    ([0x84, 0x01, 0x00, 0x00, 0x00, 0x00, 0x00, 0x00], .neg32 .r1),
    ([0xb4, 0x01, 0x00, 0x00, 0x44, 0x03, 0x22, 0x81], .mov32K .r1 0x81220344),
    ([0xbc, 0x21, 0x00, 0x00, 0x00, 0x00, 0x00, 0x00], .mov32X .r1 .r2),
    ([0xbc, 0x21, 0x08, 0x00, 0x00, 0x00, 0x00, 0x00], .movsx8to32 .r1 .r2),
    ([0xbc, 0x21, 0x10, 0x00, 0x00, 0x00, 0x00, 0x00], .movsx16to32 .r1 .r2)] = true := by decide

theorem test_decode_byteSwap : decodesTo .little [
    ([0xd4, 0x01, 0x00, 0x00, 0x10, 0x00, 0x00, 0x00], .toLe16 .r1),
    ([0xd4, 0x01, 0x00, 0x00, 0x20, 0x00, 0x00, 0x00], .toLe32 .r1),
    ([0xd4, 0x01, 0x00, 0x00, 0x40, 0x00, 0x00, 0x00], .toLe64 .r1),
    ([0xdc, 0x01, 0x00, 0x00, 0x10, 0x00, 0x00, 0x00], .toBe16 .r1),
    ([0xdc, 0x01, 0x00, 0x00, 0x20, 0x00, 0x00, 0x00], .toBe32 .r1),
    ([0xdc, 0x01, 0x00, 0x00, 0x40, 0x00, 0x00, 0x00], .toBe64 .r1),
    ([0xd7, 0x01, 0x00, 0x00, 0x10, 0x00, 0x00, 0x00], .bswap16 .r1),
    ([0xd7, 0x01, 0x00, 0x00, 0x20, 0x00, 0x00, 0x00], .bswap32 .r1),
    ([0xd7, 0x01, 0x00, 0x00, 0x40, 0x00, 0x00, 0x00], .bswap64 .r1)] = true := by decide

theorem test_decode_jump64 : decodesTo .little [
    ([0x05, 0x00, 0x04, 0x83, 0x00, 0x00, 0x00, 0x00], .ja 0x8304),
    ([0x15, 0x01, 0x04, 0x83, 0x44, 0x03, 0x22, 0x81], .jeq64K .r1 0x8304 0x81220344),
    ([0x1d, 0x21, 0x04, 0x83, 0x00, 0x00, 0x00, 0x00], .jeq64X .r1 .r2 0x8304),
    ([0x25, 0x01, 0x04, 0x83, 0x44, 0x03, 0x22, 0x81], .jgt64K .r1 0x8304 0x81220344),
    ([0x2d, 0x21, 0x04, 0x83, 0x00, 0x00, 0x00, 0x00], .jgt64X .r1 .r2 0x8304),
    ([0x35, 0x01, 0x04, 0x83, 0x44, 0x03, 0x22, 0x81], .jge64K .r1 0x8304 0x81220344),
    ([0x3d, 0x21, 0x04, 0x83, 0x00, 0x00, 0x00, 0x00], .jge64X .r1 .r2 0x8304),
    ([0x45, 0x01, 0x04, 0x83, 0x44, 0x03, 0x22, 0x81], .jset64K .r1 0x8304 0x81220344),
    ([0x4d, 0x21, 0x04, 0x83, 0x00, 0x00, 0x00, 0x00], .jset64X .r1 .r2 0x8304),
    ([0x55, 0x01, 0x04, 0x83, 0x44, 0x03, 0x22, 0x81], .jne64K .r1 0x8304 0x81220344),
    ([0x5d, 0x21, 0x04, 0x83, 0x00, 0x00, 0x00, 0x00], .jne64X .r1 .r2 0x8304),
    ([0x65, 0x01, 0x04, 0x83, 0x44, 0x03, 0x22, 0x81], .jsgt64K .r1 0x8304 0x81220344),
    ([0x6d, 0x21, 0x04, 0x83, 0x00, 0x00, 0x00, 0x00], .jsgt64X .r1 .r2 0x8304),
    ([0x75, 0x01, 0x04, 0x83, 0x44, 0x03, 0x22, 0x81], .jsge64K .r1 0x8304 0x81220344),
    ([0x7d, 0x21, 0x04, 0x83, 0x00, 0x00, 0x00, 0x00], .jsge64X .r1 .r2 0x8304),
    ([0xa5, 0x01, 0x04, 0x83, 0x44, 0x03, 0x22, 0x81], .jlt64K .r1 0x8304 0x81220344),
    ([0xad, 0x21, 0x04, 0x83, 0x00, 0x00, 0x00, 0x00], .jlt64X .r1 .r2 0x8304),
    ([0xb5, 0x01, 0x04, 0x83, 0x44, 0x03, 0x22, 0x81], .jle64K .r1 0x8304 0x81220344),
    ([0xbd, 0x21, 0x04, 0x83, 0x00, 0x00, 0x00, 0x00], .jle64X .r1 .r2 0x8304),
    ([0xc5, 0x01, 0x04, 0x83, 0x44, 0x03, 0x22, 0x81], .jslt64K .r1 0x8304 0x81220344),
    ([0xcd, 0x21, 0x04, 0x83, 0x00, 0x00, 0x00, 0x00], .jslt64X .r1 .r2 0x8304),
    ([0xd5, 0x01, 0x04, 0x83, 0x44, 0x03, 0x22, 0x81], .jsle64K .r1 0x8304 0x81220344),
    ([0xdd, 0x21, 0x04, 0x83, 0x00, 0x00, 0x00, 0x00], .jsle64X .r1 .r2 0x8304)] = true := by decide

theorem test_decode_jump32 : decodesTo .little [
    ([0x06, 0x00, 0x00, 0x00, 0x44, 0x03, 0x22, 0x81], .ja32 0x81220344),
    ([0x16, 0x01, 0x04, 0x83, 0x44, 0x03, 0x22, 0x81], .jeq32K .r1 0x8304 0x81220344),
    ([0x1e, 0x21, 0x04, 0x83, 0x00, 0x00, 0x00, 0x00], .jeq32X .r1 .r2 0x8304),
    ([0x26, 0x01, 0x04, 0x83, 0x44, 0x03, 0x22, 0x81], .jgt32K .r1 0x8304 0x81220344),
    ([0x2e, 0x21, 0x04, 0x83, 0x00, 0x00, 0x00, 0x00], .jgt32X .r1 .r2 0x8304),
    ([0x36, 0x01, 0x04, 0x83, 0x44, 0x03, 0x22, 0x81], .jge32K .r1 0x8304 0x81220344),
    ([0x3e, 0x21, 0x04, 0x83, 0x00, 0x00, 0x00, 0x00], .jge32X .r1 .r2 0x8304),
    ([0x46, 0x01, 0x04, 0x83, 0x44, 0x03, 0x22, 0x81], .jset32K .r1 0x8304 0x81220344),
    ([0x4e, 0x21, 0x04, 0x83, 0x00, 0x00, 0x00, 0x00], .jset32X .r1 .r2 0x8304),
    ([0x56, 0x01, 0x04, 0x83, 0x44, 0x03, 0x22, 0x81], .jne32K .r1 0x8304 0x81220344),
    ([0x5e, 0x21, 0x04, 0x83, 0x00, 0x00, 0x00, 0x00], .jne32X .r1 .r2 0x8304),
    ([0x66, 0x01, 0x04, 0x83, 0x44, 0x03, 0x22, 0x81], .jsgt32K .r1 0x8304 0x81220344),
    ([0x6e, 0x21, 0x04, 0x83, 0x00, 0x00, 0x00, 0x00], .jsgt32X .r1 .r2 0x8304),
    ([0x76, 0x01, 0x04, 0x83, 0x44, 0x03, 0x22, 0x81], .jsge32K .r1 0x8304 0x81220344),
    ([0x7e, 0x21, 0x04, 0x83, 0x00, 0x00, 0x00, 0x00], .jsge32X .r1 .r2 0x8304),
    ([0xa6, 0x01, 0x04, 0x83, 0x44, 0x03, 0x22, 0x81], .jlt32K .r1 0x8304 0x81220344),
    ([0xae, 0x21, 0x04, 0x83, 0x00, 0x00, 0x00, 0x00], .jlt32X .r1 .r2 0x8304),
    ([0xb6, 0x01, 0x04, 0x83, 0x44, 0x03, 0x22, 0x81], .jle32K .r1 0x8304 0x81220344),
    ([0xbe, 0x21, 0x04, 0x83, 0x00, 0x00, 0x00, 0x00], .jle32X .r1 .r2 0x8304),
    ([0xc6, 0x01, 0x04, 0x83, 0x44, 0x03, 0x22, 0x81], .jslt32K .r1 0x8304 0x81220344),
    ([0xce, 0x21, 0x04, 0x83, 0x00, 0x00, 0x00, 0x00], .jslt32X .r1 .r2 0x8304),
    ([0xd6, 0x01, 0x04, 0x83, 0x44, 0x03, 0x22, 0x81], .jsle32K .r1 0x8304 0x81220344),
    ([0xde, 0x21, 0x04, 0x83, 0x00, 0x00, 0x00, 0x00], .jsle32X .r1 .r2 0x8304)] = true := by decide

theorem test_decode_callAndExit : decodesTo .little [
    ([0x85, 0x00, 0x00, 0x00, 0x44, 0x03, 0x22, 0x81], .callHelper 0x81220344),
    ([0x85, 0x10, 0x00, 0x00, 0x44, 0x03, 0x22, 0x81], .callLocal 0x81220344),
    ([0x85, 0x20, 0x00, 0x00, 0x44, 0x03, 0x22, 0x81], .callBtf 0x81220344),
    ([0x95, 0x00, 0x00, 0x00, 0x00, 0x00, 0x00, 0x00], .exit)] = true := by decide

theorem test_decode_load : decodesTo .little [
    ([0x61, 0x21, 0x04, 0x83, 0x00, 0x00, 0x00, 0x00], .ldxW .r1 .r2 0x8304),
    ([0x69, 0x21, 0x04, 0x83, 0x00, 0x00, 0x00, 0x00], .ldxH .r1 .r2 0x8304),
    ([0x71, 0x21, 0x04, 0x83, 0x00, 0x00, 0x00, 0x00], .ldxB .r1 .r2 0x8304),
    ([0x79, 0x21, 0x04, 0x83, 0x00, 0x00, 0x00, 0x00], .ldxDW .r1 .r2 0x8304),
    ([0x81, 0x21, 0x04, 0x83, 0x00, 0x00, 0x00, 0x00], .ldxsW .r1 .r2 0x8304),
    ([0x89, 0x21, 0x04, 0x83, 0x00, 0x00, 0x00, 0x00], .ldxsH .r1 .r2 0x8304),
    ([0x91, 0x21, 0x04, 0x83, 0x00, 0x00, 0x00, 0x00], .ldxsB .r1 .r2 0x8304)] = true := by decide

theorem test_decode_store : decodesTo .little [
    ([0x62, 0x01, 0x04, 0x83, 0x44, 0x03, 0x22, 0x81], .stW .r1 0x8304 0x81220344),
    ([0x6a, 0x01, 0x04, 0x83, 0x44, 0x03, 0x22, 0x81], .stH .r1 0x8304 0x81220344),
    ([0x72, 0x01, 0x04, 0x83, 0x44, 0x03, 0x22, 0x81], .stB .r1 0x8304 0x81220344),
    ([0x7a, 0x01, 0x04, 0x83, 0x44, 0x03, 0x22, 0x81], .stDW .r1 0x8304 0x81220344),
    ([0x63, 0x21, 0x04, 0x83, 0x00, 0x00, 0x00, 0x00], .stxW .r1 .r2 0x8304),
    ([0x6b, 0x21, 0x04, 0x83, 0x00, 0x00, 0x00, 0x00], .stxH .r1 .r2 0x8304),
    ([0x73, 0x21, 0x04, 0x83, 0x00, 0x00, 0x00, 0x00], .stxB .r1 .r2 0x8304),
    ([0x7b, 0x21, 0x04, 0x83, 0x00, 0x00, 0x00, 0x00], .stxDW .r1 .r2 0x8304)] = true := by decide

theorem test_decode_atomic : decodesTo .little [
    ([0xc3, 0x21, 0x04, 0x83, 0x00, 0x00, 0x00, 0x00], .atomicAdd32 .r1 .r2 0x8304),
    ([0xc3, 0x21, 0x04, 0x83, 0x01, 0x00, 0x00, 0x00], .fetchAdd32 .r1 .r2 0x8304),
    ([0xc3, 0x21, 0x04, 0x83, 0x40, 0x00, 0x00, 0x00], .atomicOr32 .r1 .r2 0x8304),
    ([0xc3, 0x21, 0x04, 0x83, 0x41, 0x00, 0x00, 0x00], .fetchOr32 .r1 .r2 0x8304),
    ([0xc3, 0x21, 0x04, 0x83, 0x50, 0x00, 0x00, 0x00], .atomicAnd32 .r1 .r2 0x8304),
    ([0xc3, 0x21, 0x04, 0x83, 0x51, 0x00, 0x00, 0x00], .fetchAnd32 .r1 .r2 0x8304),
    ([0xc3, 0x21, 0x04, 0x83, 0xa0, 0x00, 0x00, 0x00], .atomicXor32 .r1 .r2 0x8304),
    ([0xc3, 0x21, 0x04, 0x83, 0xa1, 0x00, 0x00, 0x00], .fetchXor32 .r1 .r2 0x8304),
    ([0xc3, 0x21, 0x04, 0x83, 0xe1, 0x00, 0x00, 0x00], .xchg32 .r1 .r2 0x8304),
    ([0xc3, 0x21, 0x04, 0x83, 0xf1, 0x00, 0x00, 0x00], .cmpxchg32 .r1 .r2 0x8304),
    ([0xdb, 0x21, 0x04, 0x83, 0x00, 0x00, 0x00, 0x00], .atomicAdd64 .r1 .r2 0x8304),
    ([0xdb, 0x21, 0x04, 0x83, 0x01, 0x00, 0x00, 0x00], .fetchAdd64 .r1 .r2 0x8304),
    ([0xdb, 0x21, 0x04, 0x83, 0x40, 0x00, 0x00, 0x00], .atomicOr64 .r1 .r2 0x8304),
    ([0xdb, 0x21, 0x04, 0x83, 0x41, 0x00, 0x00, 0x00], .fetchOr64 .r1 .r2 0x8304),
    ([0xdb, 0x21, 0x04, 0x83, 0x50, 0x00, 0x00, 0x00], .atomicAnd64 .r1 .r2 0x8304),
    ([0xdb, 0x21, 0x04, 0x83, 0x51, 0x00, 0x00, 0x00], .fetchAnd64 .r1 .r2 0x8304),
    ([0xdb, 0x21, 0x04, 0x83, 0xa0, 0x00, 0x00, 0x00], .atomicXor64 .r1 .r2 0x8304),
    ([0xdb, 0x21, 0x04, 0x83, 0xa1, 0x00, 0x00, 0x00], .fetchXor64 .r1 .r2 0x8304),
    ([0xdb, 0x21, 0x04, 0x83, 0xe1, 0x00, 0x00, 0x00], .xchg64 .r1 .r2 0x8304),
    ([0xdb, 0x21, 0x04, 0x83, 0xf1, 0x00, 0x00, 0x00], .cmpxchg64 .r1 .r2 0x8304)] = true := by decide

theorem test_decode_imm64 : decodesTo .little [
    ([0x18, 0x01, 0x00, 0x00, 0x44, 0x03, 0x22, 0x81, 0x00, 0x00, 0x00, 0x00, 0x44, 0x33, 0x22, 0x11], .ldImm64 .r1 0x81220344 0x11223344),
    ([0x18, 0x11, 0x00, 0x00, 0x44, 0x03, 0x22, 0x81, 0x00, 0x00, 0x00, 0x00, 0x00, 0x00, 0x00, 0x00], .ldMapFd .r1 0x81220344),
    ([0x18, 0x21, 0x00, 0x00, 0x44, 0x03, 0x22, 0x81, 0x00, 0x00, 0x00, 0x00, 0x44, 0x33, 0x22, 0x11], .ldMapFdVal .r1 0x81220344 0x11223344),
    ([0x18, 0x31, 0x00, 0x00, 0x44, 0x03, 0x22, 0x81, 0x00, 0x00, 0x00, 0x00, 0x00, 0x00, 0x00, 0x00], .ldVarAddr .r1 0x81220344),
    ([0x18, 0x41, 0x00, 0x00, 0x44, 0x03, 0x22, 0x81, 0x00, 0x00, 0x00, 0x00, 0x00, 0x00, 0x00, 0x00], .ldCodeAddr .r1 0x81220344),
    ([0x18, 0x51, 0x00, 0x00, 0x44, 0x03, 0x22, 0x81, 0x00, 0x00, 0x00, 0x00, 0x00, 0x00, 0x00, 0x00], .ldMapIdx .r1 0x81220344),
    ([0x18, 0x61, 0x00, 0x00, 0x44, 0x03, 0x22, 0x81, 0x00, 0x00, 0x00, 0x00, 0x44, 0x33, 0x22, 0x11], .ldMapIdxVal .r1 0x81220344 0x11223344)] = true := by decide

theorem test_decode_legacy : decodesTo .little [
    ([0x20, 0x21, 0x04, 0x83, 0x44, 0x03, 0x22, 0x81], .ldAbsW 1 2 0x8304 0x81220344),
    ([0x28, 0x21, 0x04, 0x83, 0x44, 0x03, 0x22, 0x81], .ldAbsH 1 2 0x8304 0x81220344),
    ([0x30, 0x21, 0x04, 0x83, 0x44, 0x03, 0x22, 0x81], .ldAbsB 1 2 0x8304 0x81220344),
    ([0x38, 0x21, 0x04, 0x83, 0x44, 0x03, 0x22, 0x81], .ldAbsDW 1 2 0x8304 0x81220344),
    ([0x40, 0x21, 0x04, 0x83, 0x44, 0x03, 0x22, 0x81], .ldIndW 1 2 0x8304 0x81220344),
    ([0x48, 0x21, 0x04, 0x83, 0x44, 0x03, 0x22, 0x81], .ldIndH 1 2 0x8304 0x81220344),
    ([0x50, 0x21, 0x04, 0x83, 0x44, 0x03, 0x22, 0x81], .ldIndB 1 2 0x8304 0x81220344),
    ([0x58, 0x21, 0x04, 0x83, 0x44, 0x03, 0x22, 0x81], .ldIndDW 1 2 0x8304 0x81220344)] = true := by decide

/-- One of each family in big-endian BPF (30_encoding.md R62). -/
theorem test_decode_bigEndian : decodesTo .big [
    ([0x07, 0x10, 0x00, 0x00, 0x81, 0x22, 0x03, 0x44], .add64K .r1 0x81220344),
    ([0xbc, 0x12, 0x00, 0x10, 0x00, 0x00, 0x00, 0x00], .movsx16to32 .r1 .r2),
    ([0xdc, 0x10, 0x00, 0x00, 0x00, 0x00, 0x00, 0x20], .toBe32 .r1),
    ([0xbd, 0x12, 0x83, 0x04, 0x00, 0x00, 0x00, 0x00], .jle64X .r1 .r2 0x8304),
    ([0x85, 0x01, 0x00, 0x00, 0x81, 0x22, 0x03, 0x44], .callLocal 0x81220344),
    ([0x89, 0x12, 0x83, 0x04, 0x00, 0x00, 0x00, 0x00], .ldxsH .r1 .r2 0x8304),
    ([0x7a, 0x10, 0x83, 0x04, 0x81, 0x22, 0x03, 0x44], .stDW .r1 0x8304 0x81220344),
    ([0xc3, 0x12, 0x83, 0x04, 0x00, 0x00, 0x00, 0xf1], .cmpxchg32 .r1 .r2 0x8304),
    ([0x18, 0x10, 0x00, 0x00, 0x81, 0x22, 0x03, 0x44, 0x00, 0x00, 0x00, 0x00, 0x11, 0x22, 0x33, 0x44], .ldImm64 .r1 0x81220344 0x11223344)] = true := by decide

/-! ### Rejected encodings: X01 to X32, C11 to C14, O01, O08, W07 to W12 of 95_test_vectors.md -/

/-- Opcodes no table defines. -/
theorem test_reject_undefinedOpcode : (([
    [0x8d, 0x00, 0x00, 0x00, 0x00, 0x00, 0x00, 0x00],
    [0x86, 0x00, 0x00, 0x00, 0x00, 0x00, 0x00, 0x00],
    [0x96, 0x00, 0x00, 0x00, 0x00, 0x00, 0x00, 0x00],
    [0x9d, 0x00, 0x00, 0x00, 0x00, 0x00, 0x00, 0x00],
    [0x0d, 0x00, 0x00, 0x00, 0x00, 0x00, 0x00, 0x00],
    [0x00, 0x00, 0x00, 0x00, 0x00, 0x00, 0x00, 0x00],
    [0x8f, 0x21, 0x00, 0x00, 0x00, 0x00, 0x00, 0x00],
    [0xdf, 0x01, 0x00, 0x00, 0x10, 0x00, 0x00, 0x00],
    [0xe5, 0x01, 0x05, 0x00, 0x00, 0x00, 0x00, 0x00],
    [0xf7, 0x01, 0x00, 0x00, 0x00, 0x00, 0x00, 0x00],
    [0xe7, 0x00, 0x00, 0x00, 0x00, 0x00, 0x00, 0x00],
    [0xec, 0x00, 0x00, 0x00, 0x00, 0x00, 0x00, 0x00],
    [0x99, 0x12, 0x00, 0x00, 0x00, 0x00, 0x00, 0x00],
    [0x82, 0x00, 0x00, 0x00, 0x00, 0x00, 0x00, 0x00],
    [0x83, 0x00, 0x00, 0x00, 0x00, 0x00, 0x00, 0x00],
    [0x60, 0x00, 0x00, 0x00, 0x00, 0x00, 0x00, 0x00],
    [0xc1, 0x00, 0x00, 0x00, 0x00, 0x00, 0x00, 0x00],
    [0xc2, 0x00, 0x00, 0x00, 0x00, 0x00, 0x00, 0x00],
    [0x08, 0x00, 0x00, 0x00, 0x00, 0x00, 0x00, 0x00],
    [0x10, 0x00, 0x00, 0x00, 0x00, 0x00, 0x00, 0x00]] : List (List Nat)).all fun b => dec .little b == .error .undefinedOpcode) = true := by decide

/-- Selector fields outside their values. -/
theorem test_reject_undefinedSelector : (([
    [0x85, 0x30, 0x00, 0x00, 0x00, 0x00, 0x00, 0x00],
    [0xbf, 0x21, 0x07, 0x00, 0x00, 0x00, 0x00, 0x00],
    [0xbc, 0x21, 0x20, 0x00, 0x00, 0x00, 0x00, 0x00],
    [0x3f, 0x21, 0x02, 0x00, 0x00, 0x00, 0x00, 0x00],
    [0xd4, 0x01, 0x00, 0x00, 0x08, 0x00, 0x00, 0x00],
    [0x18, 0x71, 0x00, 0x00, 0x00, 0x00, 0x00, 0x00, 0x00, 0x00, 0x00, 0x00, 0x00, 0x00, 0x00, 0x00]] : List (List Nat)).all fun b => dec .little b == .error .undefinedSelector) = true := by decide

/-- Register numbers above 10. -/
theorem test_reject_registerNumber : (([
    [0x0f, 0xb1, 0x00, 0x00, 0x00, 0x00, 0x00, 0x00],
    [0x0f, 0x1b, 0x00, 0x00, 0x00, 0x00, 0x00, 0x00],
    [0x18, 0x1b, 0x00, 0x00, 0x06, 0x00, 0x00, 0x00, 0x00, 0x00, 0x00, 0x00, 0x00, 0x00, 0x00, 0x00]] : List (List Nat)).all fun b => dec .little b == .error .registerNumber) = true := by decide

/-- Unused fields that are not zero. -/
theorem test_reject_unusedField : (([
    [0x18, 0x01, 0x01, 0x00, 0x01, 0x00, 0x00, 0x00, 0x00, 0x00, 0x00, 0x00, 0x00, 0x00, 0x00, 0x00],
    [0x85, 0x01, 0x00, 0x00, 0x01, 0x00, 0x00, 0x00],
    [0x85, 0x00, 0x04, 0x00, 0x01, 0x00, 0x00, 0x00],
    [0x95, 0x00, 0x00, 0x00, 0x01, 0x00, 0x00, 0x00],
    [0x95, 0x01, 0x00, 0x00, 0x00, 0x00, 0x00, 0x00],
    [0x07, 0x01, 0x01, 0x00, 0x05, 0x00, 0x00, 0x00],
    [0x0f, 0x21, 0x00, 0x00, 0x01, 0x00, 0x00, 0x00],
    [0x07, 0x11, 0x00, 0x00, 0x05, 0x00, 0x00, 0x00],
    [0x87, 0x21, 0x00, 0x00, 0x00, 0x00, 0x00, 0x00],
    [0x87, 0x01, 0x00, 0x00, 0x05, 0x00, 0x00, 0x00],
    [0xb7, 0x01, 0x08, 0x00, 0x05, 0x00, 0x00, 0x00],
    [0xd4, 0x21, 0x00, 0x00, 0x10, 0x00, 0x00, 0x00],
    [0xd4, 0x01, 0x01, 0x00, 0x10, 0x00, 0x00, 0x00],
    [0x05, 0x00, 0x05, 0x00, 0x01, 0x00, 0x00, 0x00],
    [0x05, 0x01, 0x05, 0x00, 0x00, 0x00, 0x00, 0x00],
    [0x06, 0x00, 0x05, 0x00, 0x05, 0x00, 0x00, 0x00],
    [0x1d, 0x21, 0x05, 0x00, 0x01, 0x00, 0x00, 0x00],
    [0x15, 0x21, 0x05, 0x00, 0x00, 0x00, 0x00, 0x00],
    [0x61, 0x12, 0x00, 0x00, 0x01, 0x00, 0x00, 0x00],
    [0x62, 0x21, 0x00, 0x00, 0x05, 0x00, 0x00, 0x00],
    [0x63, 0x21, 0x00, 0x00, 0x01, 0x00, 0x00, 0x00],
    [0x0f, 0x21, 0x00, 0x00, 0x01, 0x00, 0x00, 0x00]] : List (List Nat)).all fun b => dec .little b == .error .unusedField) = true := by decide

/-- R10 as the destination. -/
theorem test_reject_writesR10 : (([
    [0x18, 0x0a, 0x00, 0x00, 0x01, 0x00, 0x00, 0x00, 0x00, 0x00, 0x00, 0x00, 0x00, 0x00, 0x00, 0x00],
    [0x07, 0x0a, 0x00, 0x00, 0x08, 0x00, 0x00, 0x00]] : List (List Nat)).all fun b => dec .little b == .error .writesR10) = true := by decide

/-- A second slot that is not as it must be. -/
theorem test_reject_secondSlot : (([
    [0x18, 0x01, 0x00, 0x00, 0x01, 0x00, 0x00, 0x00, 0x18, 0x00, 0x00, 0x00, 0x00, 0x00, 0x00, 0x00],
    [0x18, 0x01, 0x00, 0x00, 0x01, 0x00, 0x00, 0x00, 0x00, 0x01, 0x00, 0x00, 0x00, 0x00, 0x00, 0x00],
    [0x18, 0x01, 0x00, 0x00, 0x01, 0x00, 0x00, 0x00, 0x00, 0x00, 0x04, 0x00, 0x00, 0x00, 0x00, 0x00],
    [0x18, 0x11, 0x00, 0x00, 0x05, 0x00, 0x00, 0x00, 0x00, 0x00, 0x00, 0x00, 0x01, 0x00, 0x00, 0x00],
    [0x18, 0x21, 0x00, 0x00, 0x05, 0x00, 0x00, 0x00, 0x00, 0x00, 0x00, 0x00, 0x00, 0x00, 0x00, 0x80]] : List (List Nat)).all fun b => dec .little b == .error .secondSlot) = true := by decide

/-- No second slot. -/
theorem test_reject_missingSecondSlot : (([
    [0x18, 0x01, 0x00, 0x00, 0x01, 0x00, 0x00, 0x00]] : List (List Nat)).all fun b => dec .little b == .error .missingSecondSlot) = true := by decide

/-- What a rejection raises: a missing second slot `PcOutOfRange(1)`, a bad one `IllegalInstruction(0)` (W12, W09). -/
theorem test_rejected_steps_fault :
    (endsIn (start bench 0 [0x18, 0x01, 0, 0, 1, 0, 0, 0] []) (.pcOutOfRange 1) &&
      endsIn (start bench 0 [0x18, 0x01, 0, 0, 1, 0, 0, 0, 0x18, 0, 0, 0, 0, 0, 0, 0] []) (.illegalInstruction 0)) = true := by
  decide

/-! ### Vectors of 95_test_vectors.md sections 2.1 to 2.5, one step each -/

/-- A01, A03, A06, A07, A09, A101, A103, A105, A106, A107, A11, A111, A112, A113, A117, A118, A12, A16, A17, A18. -/
theorem test_vectors_alu64_1 : vectors bench 0 1 [
    ([0x0f, 0x21, 0x00, 0x00, 0x00, 0x00, 0x00, 0x00], [(.r1, 0xffffffff00000005), (.r2, 0x1ffffffff)], [(.r1, 0x100000004)]),
    ([0x07, 0x01, 0x00, 0x00, 0xff, 0xff, 0xff, 0xff], [(.r1, 0x5)], [(.r1, 0x4)]),
    ([0x0f, 0x11, 0x00, 0x00, 0x00, 0x00, 0x00, 0x00], [(.r1, 0x8000000000000001)], [(.r1, 0x2)]),
    ([0x1f, 0x21, 0x00, 0x00, 0x00, 0x00, 0x00, 0x00], [(.r1, 0x0), (.r2, 0x1)], [(.r1, 0xffffffffffffffff)]),
    ([0x17, 0x01, 0x00, 0x00, 0x01, 0x00, 0x00, 0x00], [(.r1, 0x0)], [(.r1, 0xffffffffffffffff)]),
    ([0xb7, 0x01, 0x00, 0x00, 0xff, 0xff, 0xff, 0x7f], [], [(.r1, 0x7fffffff)]),
    ([0xbf, 0x21, 0x08, 0x00, 0x00, 0x00, 0x00, 0x00], [(.r2, 0x1122334455667788)], [(.r1, 0xffffffffffffff88)]),
    ([0xbf, 0x21, 0x10, 0x00, 0x00, 0x00, 0x00, 0x00], [(.r2, 0x1122334455668788)], [(.r1, 0xffffffffffff8788)]),
    ([0xbf, 0x21, 0x20, 0x00, 0x00, 0x00, 0x00, 0x00], [(.r2, 0x11223344f5667788)], [(.r1, 0xfffffffff5667788)]),
    ([0xbf, 0x21, 0x20, 0x00, 0x00, 0x00, 0x00, 0x00], [(.r2, 0x1122334475667788)], [(.r1, 0x75667788)]),
    ([0x1f, 0x11, 0x00, 0x00, 0x00, 0x00, 0x00, 0x00], [(.r1, 0x1234)], [(.r1, 0x0)]),
    ([0xbf, 0x11, 0x08, 0x00, 0x00, 0x00, 0x00, 0x00], [(.r1, 0x80)], [(.r1, 0xffffffffffffff80)]),
    ([0xcf, 0x21, 0x00, 0x00, 0x00, 0x00, 0x00, 0x00], [(.r1, 0x8000000000000000), (.r2, 0x3f)], [(.r1, 0xffffffffffffffff)]),
    ([0xc7, 0x01, 0x00, 0x00, 0x04, 0x00, 0x00, 0x00], [(.r1, 0x8000000000000000)], [(.r1, 0xf800000000000000)]),
    ([0xc7, 0x01, 0x00, 0x00, 0x44, 0x00, 0x00, 0x00], [(.r1, 0x8000000000000000)], [(.r1, 0xf800000000000000)]),
    ([0xcf, 0x21, 0x00, 0x00, 0x00, 0x00, 0x00, 0x00], [(.r1, 0x4000000000000000), (.r2, 0x3e)], [(.r1, 0x1)]),
    ([0x2f, 0x21, 0x00, 0x00, 0x00, 0x00, 0x00, 0x00], [(.r1, 0x100000000), (.r2, 0x100000000)], [(.r1, 0x0)]),
    ([0x27, 0x01, 0x00, 0x00, 0xfe, 0xff, 0xff, 0xff], [(.r1, 0x3)], [(.r1, 0xfffffffffffffffa)]),
    ([0x2f, 0x21, 0x00, 0x00, 0x00, 0x00, 0x00, 0x00], [(.r1, 0x8000000000000000), (.r2, 0xffffffffffffffff)], [(.r1, 0x8000000000000000)]),
    ([0x3f, 0x21, 0x00, 0x00, 0x00, 0x00, 0x00, 0x00], [(.r1, 0x64), (.r2, 0x7)], [(.r1, 0xe)])] = true := by decide

/-- A22, A25, A28, A29, A33, A37, A39, A40, A42, A44, A46, A48, A53, A55, A56, A57, A59, A60, A63, A67. -/
theorem test_vectors_alu64_2 : vectors bench 0 1 [
    ([0x37, 0x01, 0x00, 0x00, 0xff, 0xff, 0xff, 0xff], [(.r1, 0xffffffffffffffff)], [(.r1, 0x1)]),
    ([0x37, 0x01, 0x00, 0x00, 0x00, 0x00, 0x00, 0x00], [(.r1, 0x9)], [(.r1, 0x0)]),
    ([0x3f, 0x11, 0x00, 0x00, 0x00, 0x00, 0x00, 0x00], [(.r1, 0x4d)], [(.r1, 0x1)]),
    ([0x3f, 0x21, 0x01, 0x00, 0x00, 0x00, 0x00, 0x00], [(.r1, 0xfffffffffffffff9), (.r2, 0x2)], [(.r1, 0xfffffffffffffffd)]),
    ([0x3f, 0x21, 0x01, 0x00, 0x00, 0x00, 0x00, 0x00], [(.r1, 0x7), (.r2, 0x0)], [(.r1, 0x0)]),
    ([0x37, 0x01, 0x01, 0x00, 0xfe, 0xff, 0xff, 0xff], [(.r1, 0x7)], [(.r1, 0xfffffffffffffffd)]),
    ([0x37, 0x01, 0x01, 0x00, 0x00, 0x00, 0x00, 0x00], [(.r1, 0x7)], [(.r1, 0x0)]),
    ([0x4f, 0x21, 0x00, 0x00, 0x00, 0x00, 0x00, 0x00], [(.r1, 0xf0), (.r2, 0xf)], [(.r1, 0xff)]),
    ([0x47, 0x01, 0x00, 0x00, 0x00, 0x00, 0x00, 0x80], [(.r1, 0x0)], [(.r1, 0xffffffff80000000)]),
    ([0x57, 0x01, 0x00, 0x00, 0xf0, 0xff, 0xff, 0xff], [(.r1, 0x123456789abcdeff)], [(.r1, 0x123456789abcdef0)]),
    ([0x5f, 0x21, 0x00, 0x00, 0x00, 0x00, 0x00, 0x00], [(.r1, 0xff00), (.r2, 0xff0)], [(.r1, 0xf00)]),
    ([0x6f, 0x21, 0x00, 0x00, 0x00, 0x00, 0x00, 0x00], [(.r1, 0x1), (.r2, 0x3f)], [(.r1, 0x8000000000000000)]),
    ([0x67, 0x01, 0x00, 0x00, 0x04, 0x00, 0x00, 0x00], [(.r1, 0xf000000000000001)], [(.r1, 0x10)]),
    ([0x67, 0x01, 0x00, 0x00, 0xff, 0xff, 0xff, 0xff], [(.r1, 0x1)], [(.r1, 0x8000000000000000)]),
    ([0x6f, 0x11, 0x00, 0x00, 0x00, 0x00, 0x00, 0x00], [(.r1, 0x3)], [(.r1, 0x18)]),
    ([0x7f, 0x21, 0x00, 0x00, 0x00, 0x00, 0x00, 0x00], [(.r1, 0x8000000000000000), (.r2, 0x3f)], [(.r1, 0x1)]),
    ([0x77, 0x01, 0x00, 0x00, 0x04, 0x00, 0x00, 0x00], [(.r1, 0x8000000000000000)], [(.r1, 0x800000000000000)]),
    ([0x77, 0x01, 0x00, 0x00, 0x40, 0x00, 0x00, 0x00], [(.r1, 0x8000000000000000)], [(.r1, 0x8000000000000000)]),
    ([0x87, 0x01, 0x00, 0x00, 0x00, 0x00, 0x00, 0x00], [(.r1, 0x1)], [(.r1, 0xffffffffffffffff)]),
    ([0x87, 0x01, 0x00, 0x00, 0x00, 0x00, 0x00, 0x00], [(.r1, 0x0)], [(.r1, 0x0)])] = true := by decide

/-- A69, A73, A75, A79, A80, A85, A88, A91, A93, A95, A97, A99. -/
theorem test_vectors_alu64_3 : vectors bench 0 1 [
    ([0x9f, 0x21, 0x00, 0x00, 0x00, 0x00, 0x00, 0x00], [(.r1, 0x64), (.r2, 0x7)], [(.r1, 0x2)]),
    ([0x97, 0x01, 0x00, 0x00, 0xff, 0xff, 0xff, 0xff], [(.r1, 0x5)], [(.r1, 0x5)]),
    ([0x97, 0x01, 0x00, 0x00, 0x00, 0x00, 0x00, 0x00], [(.r1, 0x9)], [(.r1, 0x9)]),
    ([0x9f, 0x11, 0x00, 0x00, 0x00, 0x00, 0x00, 0x00], [(.r1, 0x0)], [(.r1, 0x0)]),
    ([0x9f, 0x21, 0x01, 0x00, 0x00, 0x00, 0x00, 0x00], [(.r1, 0xfffffffffffffff3), (.r2, 0x3)], [(.r1, 0xffffffffffffffff)]),
    ([0x9f, 0x21, 0x01, 0x00, 0x00, 0x00, 0x00, 0x00], [(.r1, 0xfffffffffffffff3), (.r2, 0x0)], [(.r1, 0xfffffffffffffff3)]),
    ([0x97, 0x01, 0x01, 0x00, 0xfd, 0xff, 0xff, 0xff], [(.r1, 0xd)], [(.r1, 0x1)]),
    ([0x97, 0x01, 0x01, 0x00, 0x00, 0x00, 0x00, 0x00], [(.r1, 0xd)], [(.r1, 0xd)]),
    ([0xa7, 0x01, 0x00, 0x00, 0xff, 0xff, 0xff, 0xff], [(.r1, 0x0)], [(.r1, 0xffffffffffffffff)]),
    ([0xaf, 0x11, 0x00, 0x00, 0x00, 0x00, 0x00, 0x00], [(.r1, 0x1234)], [(.r1, 0x0)]),
    ([0xb7, 0x01, 0x00, 0x00, 0xff, 0xff, 0xff, 0xff], [], [(.r1, 0xffffffffffffffff)]),
    ([0xbf, 0x21, 0x00, 0x00, 0x00, 0x00, 0x00, 0x00], [(.r2, 0x1122334455667788)], [(.r1, 0x1122334455667788)])] = true := by decide

/-- A02, A04, A08, A10, A100, A102, A108, A109, A110, A114, A115, A116, A14, A15, A20, A21, A24, A34, A36, A38. -/
theorem test_vectors_alu32_1 : vectors bench 0 1 [
    ([0x0c, 0x21, 0x00, 0x00, 0x00, 0x00, 0x00, 0x00], [(.r1, 0xffffffff00000005), (.r2, 0x1ffffffff)], [(.r1, 0x4)]),
    ([0x04, 0x01, 0x00, 0x00, 0xff, 0xff, 0xff, 0xff], [(.r1, 0x5)], [(.r1, 0x4)]),
    ([0x1c, 0x21, 0x00, 0x00, 0x00, 0x00, 0x00, 0x00], [(.r1, 0x0), (.r2, 0x1)], [(.r1, 0xffffffff)]),
    ([0x14, 0x01, 0x00, 0x00, 0x00, 0x00, 0x00, 0x80], [(.r1, 0x0)], [(.r1, 0x80000000)]),
    ([0xbc, 0x21, 0x00, 0x00, 0x00, 0x00, 0x00, 0x00], [(.r2, 0x1122334455667788)], [(.r1, 0x55667788)]),
    ([0xbc, 0x11, 0x00, 0x00, 0x00, 0x00, 0x00, 0x00], [(.r1, 0xffffffff00000001)], [(.r1, 0x1)]),
    ([0xbc, 0x21, 0x08, 0x00, 0x00, 0x00, 0x00, 0x00], [(.r2, 0x1122334455667788)], [(.r1, 0xffffff88)]),
    ([0xbc, 0x21, 0x10, 0x00, 0x00, 0x00, 0x00, 0x00], [(.r2, 0x1122334455668788)], [(.r1, 0xffff8788)]),
    ([0xbc, 0x21, 0x08, 0x00, 0x00, 0x00, 0x00, 0x00], [(.r2, 0x17f)], [(.r1, 0x7f)]),
    ([0xcc, 0x21, 0x00, 0x00, 0x00, 0x00, 0x00, 0x00], [(.r1, 0x80000000), (.r2, 0x1f)], [(.r1, 0xffffffff)]),
    ([0xc4, 0x01, 0x00, 0x00, 0x04, 0x00, 0x00, 0x00], [(.r1, 0x1234567880000000)], [(.r1, 0xf8000000)]),
    ([0xc4, 0x01, 0x00, 0x00, 0x04, 0x00, 0x00, 0x00], [(.r1, 0xffffffff70000000)], [(.r1, 0x7000000)]),
    ([0x2c, 0x21, 0x00, 0x00, 0x00, 0x00, 0x00, 0x00], [(.r1, 0x10000), (.r2, 0x10000)], [(.r1, 0x0)]),
    ([0x24, 0x01, 0x00, 0x00, 0xfe, 0xff, 0xff, 0xff], [(.r1, 0x3)], [(.r1, 0xfffffffa)]),
    ([0x3c, 0x21, 0x00, 0x00, 0x00, 0x00, 0x00, 0x00], [(.r1, 0xaaaaaaaa00000064), (.r2, 0x5555555500000007)], [(.r1, 0xe)]),
    ([0x3c, 0x21, 0x00, 0x00, 0x00, 0x00, 0x00, 0x00], [(.r1, 0xaaaaaaaa00000064), (.r2, 0xffffffff00000000)], [(.r1, 0x0)]),
    ([0x34, 0x01, 0x00, 0x00, 0xff, 0xff, 0xff, 0xff], [(.r1, 0xffffffff)], [(.r1, 0x1)]),
    ([0x3c, 0x21, 0x01, 0x00, 0x00, 0x00, 0x00, 0x00], [(.r1, 0xfffffff9), (.r2, 0x2)], [(.r1, 0xfffffffd)]),
    ([0x3c, 0x21, 0x01, 0x00, 0x00, 0x00, 0x00, 0x00], [(.r1, 0x1234567800000007), (.r2, 0xabcdef0000000000)], [(.r1, 0x0)]),
    ([0x34, 0x01, 0x01, 0x00, 0xfe, 0xff, 0xff, 0xff], [(.r1, 0x7)], [(.r1, 0xfffffffd)])] = true := by decide

/-- A41, A43, A45, A47, A51, A52, A54, A58, A61, A62, A65, A68, A71, A72, A74, A76, A86, A89, A90, A92. -/
theorem test_vectors_alu32_2 : vectors bench 0 1 [
    ([0x44, 0x01, 0x00, 0x00, 0xff, 0xff, 0xff, 0xff], [(.r1, 0x1234567800000000)], [(.r1, 0xffffffff)]),
    ([0x4c, 0x21, 0x00, 0x00, 0x00, 0x00, 0x00, 0x00], [(.r1, 0xffffffff00000001), (.r2, 0xffffffff00000002)], [(.r1, 0x3)]),
    ([0x54, 0x01, 0x00, 0x00, 0xf0, 0xff, 0xff, 0xff], [(.r1, 0x123456789abcdeff)], [(.r1, 0x9abcdef0)]),
    ([0x5c, 0x21, 0x00, 0x00, 0x00, 0x00, 0x00, 0x00], [(.r1, 0xffffffffffffffff), (.r2, 0xffffffffffffffff)], [(.r1, 0xffffffff)]),
    ([0x6c, 0x21, 0x00, 0x00, 0x00, 0x00, 0x00, 0x00], [(.r1, 0xffffffff80000001), (.r2, 0x1)], [(.r1, 0x2)]),
    ([0x6c, 0x21, 0x00, 0x00, 0x00, 0x00, 0x00, 0x00], [(.r1, 0xffffffff80000001), (.r2, 0x20)], [(.r1, 0x80000001)]),
    ([0x64, 0x01, 0x00, 0x00, 0x21, 0x00, 0x00, 0x00], [(.r1, 0x1)], [(.r1, 0x2)]),
    ([0x7c, 0x21, 0x00, 0x00, 0x00, 0x00, 0x00, 0x00], [(.r1, 0xffffffff80000000), (.r2, 0x1f)], [(.r1, 0x1)]),
    ([0x74, 0x01, 0x00, 0x00, 0x04, 0x00, 0x00, 0x00], [(.r1, 0xffffffff80000000)], [(.r1, 0x8000000)]),
    ([0x7c, 0x21, 0x00, 0x00, 0x00, 0x00, 0x00, 0x00], [(.r1, 0x80000000), (.r2, 0x120)], [(.r1, 0x80000000)]),
    ([0x84, 0x01, 0x00, 0x00, 0x00, 0x00, 0x00, 0x00], [(.r1, 0xffffffff00000001)], [(.r1, 0xffffffff)]),
    ([0x84, 0x01, 0x00, 0x00, 0x00, 0x00, 0x00, 0x00], [(.r1, 0xffffffff00000000)], [(.r1, 0x0)]),
    ([0x9c, 0x21, 0x00, 0x00, 0x00, 0x00, 0x00, 0x00], [(.r1, 0xffffffff00000064), (.r2, 0xffffffff00000000)], [(.r1, 0x64)]),
    ([0x9c, 0x21, 0x00, 0x00, 0x00, 0x00, 0x00, 0x00], [(.r1, 0xffffffff00000064), (.r2, 0x7)], [(.r1, 0x2)]),
    ([0x94, 0x01, 0x00, 0x00, 0xff, 0xff, 0xff, 0xff], [(.r1, 0xffffffff)], [(.r1, 0x0)]),
    ([0x94, 0x01, 0x00, 0x00, 0x00, 0x00, 0x00, 0x00], [(.r1, 0xffffffff00000009)], [(.r1, 0x9)]),
    ([0x9c, 0x21, 0x01, 0x00, 0x00, 0x00, 0x00, 0x00], [(.r1, 0xfffffff3), (.r2, 0x3)], [(.r1, 0xffffffff)]),
    ([0x94, 0x01, 0x01, 0x00, 0x03, 0x00, 0x00, 0x00], [(.r1, 0xfffffff3)], [(.r1, 0xffffffff)]),
    ([0x9c, 0x21, 0x01, 0x00, 0x00, 0x00, 0x00, 0x00], [(.r1, 0x80000000), (.r2, 0xffffffff)], [(.r1, 0x0)]),
    ([0x94, 0x01, 0x01, 0x00, 0x00, 0x00, 0x00, 0x00], [(.r1, 0xffffffff0000000d)], [(.r1, 0xd)])] = true := by decide

/-- A94, A96, A98. -/
theorem test_vectors_alu32_3 : vectors bench 0 1 [
    ([0xa4, 0x01, 0x00, 0x00, 0xff, 0xff, 0xff, 0xff], [(.r1, 0xffffffff00000000)], [(.r1, 0xffffffff)]),
    ([0xac, 0x21, 0x00, 0x00, 0x00, 0x00, 0x00, 0x00], [(.r1, 0xffffffff0000ffff), (.r2, 0x12345678000000ff)], [(.r1, 0xff00)]),
    ([0xb4, 0x01, 0x00, 0x00, 0xff, 0xff, 0xff, 0xff], [], [(.r1, 0xffffffff)])] = true := by decide

/-- S01, S02, S03, S04, S05, S06, S07, S08, S09. -/
theorem test_vectors_swap_little : vectors bench 0 1 [
    ([0xd4, 0x01, 0x00, 0x00, 0x10, 0x00, 0x00, 0x00], [(.r1, 0x1122334455667788)], [(.r1, 0x7788)]),
    ([0xd4, 0x01, 0x00, 0x00, 0x20, 0x00, 0x00, 0x00], [(.r1, 0x1122334455667788)], [(.r1, 0x55667788)]),
    ([0xd4, 0x01, 0x00, 0x00, 0x40, 0x00, 0x00, 0x00], [(.r1, 0x1122334455667788)], [(.r1, 0x1122334455667788)]),
    ([0xdc, 0x01, 0x00, 0x00, 0x10, 0x00, 0x00, 0x00], [(.r1, 0x1122334455667788)], [(.r1, 0x8877)]),
    ([0xdc, 0x01, 0x00, 0x00, 0x20, 0x00, 0x00, 0x00], [(.r1, 0x1122334455667788)], [(.r1, 0x88776655)]),
    ([0xdc, 0x01, 0x00, 0x00, 0x40, 0x00, 0x00, 0x00], [(.r1, 0x1122334455667788)], [(.r1, 0x8877665544332211)]),
    ([0xd7, 0x01, 0x00, 0x00, 0x10, 0x00, 0x00, 0x00], [(.r1, 0x1122334455667788)], [(.r1, 0x8877)]),
    ([0xd7, 0x01, 0x00, 0x00, 0x20, 0x00, 0x00, 0x00], [(.r1, 0x1122334455667788)], [(.r1, 0x88776655)]),
    ([0xd7, 0x01, 0x00, 0x00, 0x40, 0x00, 0x00, 0x00], [(.r1, 0x1122334455667788)], [(.r1, 0x8877665544332211)])] = true := by decide

/-- S10, S11, S12, S13, S14, S15, S16, S17, S18. -/
theorem test_vectors_swap_big : vectors { bench with endian := .big } 0 1 [
    ([0xd4, 0x10, 0x00, 0x00, 0x00, 0x00, 0x00, 0x10], [(.r1, 0x1122334455667788)], [(.r1, 0x8877)]),
    ([0xd4, 0x10, 0x00, 0x00, 0x00, 0x00, 0x00, 0x20], [(.r1, 0x1122334455667788)], [(.r1, 0x88776655)]),
    ([0xd4, 0x10, 0x00, 0x00, 0x00, 0x00, 0x00, 0x40], [(.r1, 0x1122334455667788)], [(.r1, 0x8877665544332211)]),
    ([0xdc, 0x10, 0x00, 0x00, 0x00, 0x00, 0x00, 0x10], [(.r1, 0x1122334455667788)], [(.r1, 0x7788)]),
    ([0xdc, 0x10, 0x00, 0x00, 0x00, 0x00, 0x00, 0x20], [(.r1, 0x1122334455667788)], [(.r1, 0x55667788)]),
    ([0xdc, 0x10, 0x00, 0x00, 0x00, 0x00, 0x00, 0x40], [(.r1, 0x1122334455667788)], [(.r1, 0x1122334455667788)]),
    ([0xd7, 0x10, 0x00, 0x00, 0x00, 0x00, 0x00, 0x10], [(.r1, 0x1122334455667788)], [(.r1, 0x8877)]),
    ([0xd7, 0x10, 0x00, 0x00, 0x00, 0x00, 0x00, 0x20], [(.r1, 0x1122334455667788)], [(.r1, 0x88776655)]),
    ([0xd7, 0x10, 0x00, 0x00, 0x00, 0x00, 0x00, 0x40], [(.r1, 0x1122334455667788)], [(.r1, 0x8877665544332211)])] = true := by decide

/-- J01, J04, J05, J06, J07, J09, J10, J12, J13, J15, J16, J17, J18, J19, J20, J21, J22, J23, J24, J25. -/
theorem test_vectors_jump_1 : jumps [
    ([0x05, 0x00, 0x05, 0x00, 0x00, 0x00, 0x00, 0x00], [], 16),
    ([0x05, 0x00, 0xff, 0xff, 0x00, 0x00, 0x00, 0x00], [], 10),
    ([0x06, 0x00, 0x00, 0x00, 0x05, 0x00, 0x00, 0x00], [], 16),
    ([0x06, 0x00, 0x00, 0x00, 0xf5, 0xff, 0xff, 0xff], [], 0),
    ([0x1d, 0x21, 0x05, 0x00, 0x00, 0x00, 0x00, 0x00], [(.r1, 0x7), (.r2, 0x7)], 16),
    ([0x1e, 0x21, 0x05, 0x00, 0x00, 0x00, 0x00, 0x00], [(.r1, 0x100000007), (.r2, 0x7)], 16),
    ([0x15, 0x01, 0x05, 0x00, 0xff, 0xff, 0xff, 0xff], [(.r1, 0xffffffffffffffff)], 16),
    ([0x16, 0x01, 0x05, 0x00, 0xff, 0xff, 0xff, 0xff], [(.r1, 0xffffffff)], 16),
    ([0x2d, 0x21, 0x05, 0x00, 0x00, 0x00, 0x00, 0x00], [(.r1, 0xffffffffffffffff), (.r2, 0x1)], 16),
    ([0x25, 0x01, 0x05, 0x00, 0xff, 0xff, 0xff, 0xff], [(.r1, 0x5)], 11),
    ([0x26, 0x01, 0x05, 0x00, 0xfe, 0xff, 0xff, 0xff], [(.r1, 0xffffffff)], 16),
    ([0x2e, 0x21, 0x05, 0x00, 0x00, 0x00, 0x00, 0x00], [(.r1, 0x100000000), (.r2, 0x0)], 11),
    ([0x3d, 0x21, 0x05, 0x00, 0x00, 0x00, 0x00, 0x00], [(.r1, 0x1), (.r2, 0x1)], 16),
    ([0x3d, 0x21, 0x05, 0x00, 0x00, 0x00, 0x00, 0x00], [(.r1, 0x0), (.r2, 0x1)], 11),
    ([0x35, 0x01, 0x05, 0x00, 0xff, 0xff, 0xff, 0xff], [(.r1, 0xffffffffffffffff)], 16),
    ([0x36, 0x01, 0x05, 0x00, 0x00, 0x00, 0x00, 0x00], [(.r1, 0xffffffff00000000)], 16),
    ([0x3e, 0x21, 0x05, 0x00, 0x00, 0x00, 0x00, 0x00], [(.r1, 0x7fffffff), (.r2, 0x80000000)], 11),
    ([0x4d, 0x21, 0x05, 0x00, 0x00, 0x00, 0x00, 0x00], [(.r1, 0xf0), (.r2, 0xf)], 11),
    ([0x4d, 0x21, 0x05, 0x00, 0x00, 0x00, 0x00, 0x00], [(.r1, 0xf0), (.r2, 0x1f)], 16),
    ([0x45, 0x01, 0x05, 0x00, 0x00, 0x00, 0x00, 0x80], [(.r1, 0x100000000)], 16)] = true := by decide

/-- J26, J27, J28, J29, J30, J31, J32, J33, J34, J35, J36, J37, J38, J39, J40, J41, J42, J43, J44, J45. -/
theorem test_vectors_jump_2 : jumps [
    ([0x46, 0x01, 0x05, 0x00, 0x00, 0x00, 0x00, 0x80], [(.r1, 0x100000000)], 11),
    ([0x4e, 0x21, 0x05, 0x00, 0x00, 0x00, 0x00, 0x00], [(.r1, 0x100000000), (.r2, 0x100000000)], 11),
    ([0x5d, 0x21, 0x05, 0x00, 0x00, 0x00, 0x00, 0x00], [(.r1, 0x1), (.r2, 0x2)], 16),
    ([0x5d, 0x21, 0x05, 0x00, 0x00, 0x00, 0x00, 0x00], [(.r1, 0x2), (.r2, 0x2)], 11),
    ([0x5e, 0x21, 0x05, 0x00, 0x00, 0x00, 0x00, 0x00], [(.r1, 0x100000002), (.r2, 0x2)], 11),
    ([0x55, 0x01, 0x05, 0x00, 0x00, 0x00, 0x00, 0x00], [(.r1, 0x0)], 11),
    ([0x56, 0x01, 0x05, 0x00, 0xff, 0xff, 0xff, 0xff], [(.r1, 0xffffffff)], 11),
    ([0x6d, 0x21, 0x05, 0x00, 0x00, 0x00, 0x00, 0x00], [(.r1, 0x1), (.r2, 0xffffffffffffffff)], 16),
    ([0x6d, 0x21, 0x05, 0x00, 0x00, 0x00, 0x00, 0x00], [(.r1, 0xffffffffffffffff), (.r2, 0x1)], 11),
    ([0x65, 0x01, 0x05, 0x00, 0xff, 0xff, 0xff, 0xff], [(.r1, 0x0)], 16),
    ([0x6e, 0x21, 0x05, 0x00, 0x00, 0x00, 0x00, 0x00], [(.r1, 0x80000000), (.r2, 0x0)], 11),
    ([0x66, 0x01, 0x05, 0x00, 0xfe, 0xff, 0xff, 0xff], [(.r1, 0xffffffff)], 16),
    ([0x7d, 0x21, 0x05, 0x00, 0x00, 0x00, 0x00, 0x00], [(.r1, 0xffffffffffffffff), (.r2, 0xffffffffffffffff)], 16),
    ([0x7d, 0x21, 0x05, 0x00, 0x00, 0x00, 0x00, 0x00], [(.r1, 0x8000000000000000), (.r2, 0x0)], 11),
    ([0x7e, 0x21, 0x05, 0x00, 0x00, 0x00, 0x00, 0x00], [(.r1, 0xffffffff), (.r2, 0x0)], 11),
    ([0x7e, 0x21, 0x05, 0x00, 0x00, 0x00, 0x00, 0x00], [(.r1, 0x1ffffffff), (.r2, 0xffffffff)], 16),
    ([0x75, 0x01, 0x05, 0x00, 0xfb, 0xff, 0xff, 0xff], [(.r1, 0xfffffffffffffffb)], 16),
    ([0x76, 0x01, 0x05, 0x00, 0x00, 0x00, 0x00, 0x00], [(.r1, 0x7fffffff)], 16),
    ([0xad, 0x21, 0x05, 0x00, 0x00, 0x00, 0x00, 0x00], [(.r1, 0x1), (.r2, 0xffffffffffffffff)], 16),
    ([0xad, 0x21, 0x05, 0x00, 0x00, 0x00, 0x00, 0x00], [(.r1, 0x1), (.r2, 0x1)], 11)] = true := by decide

/-- J46, J47, J48, J49, J50, J51, J52, J53, J54, J55, J56, J57, J58, J59, J60, J61, J62, J63, J64, J65. -/
theorem test_vectors_jump_3 : jumps [
    ([0xa5, 0x01, 0x05, 0x00, 0xff, 0xff, 0xff, 0xff], [(.r1, 0x5)], 16),
    ([0xae, 0x21, 0x05, 0x00, 0x00, 0x00, 0x00, 0x00], [(.r1, 0xffffffff00000000), (.r2, 0x1)], 16),
    ([0xa6, 0x01, 0x05, 0x00, 0x00, 0x00, 0x00, 0x00], [(.r1, 0x0)], 11),
    ([0xbd, 0x21, 0x05, 0x00, 0x00, 0x00, 0x00, 0x00], [(.r1, 0x1), (.r2, 0x1)], 16),
    ([0xbd, 0x21, 0x05, 0x00, 0x00, 0x00, 0x00, 0x00], [(.r1, 0x2), (.r2, 0x1)], 11),
    ([0xb5, 0x01, 0x05, 0x00, 0x00, 0x00, 0x00, 0x00], [(.r1, 0x0)], 16),
    ([0xbe, 0x21, 0x05, 0x00, 0x00, 0x00, 0x00, 0x00], [(.r1, 0x1ffffffff), (.r2, 0xffffffff)], 16),
    ([0xb6, 0x01, 0x05, 0x00, 0xff, 0xff, 0xff, 0xff], [(.r1, 0x80000000)], 16),
    ([0xcd, 0x21, 0x05, 0x00, 0x00, 0x00, 0x00, 0x00], [(.r1, 0xffffffffffffffff), (.r2, 0x0)], 16),
    ([0xcd, 0x21, 0x05, 0x00, 0x00, 0x00, 0x00, 0x00], [(.r1, 0x0), (.r2, 0xffffffffffffffff)], 11),
    ([0xc5, 0x01, 0x05, 0x00, 0x00, 0x00, 0x00, 0x00], [(.r1, 0x8000000000000000)], 16),
    ([0xce, 0x21, 0x05, 0x00, 0x00, 0x00, 0x00, 0x00], [(.r1, 0x80000000), (.r2, 0x7fffffff)], 16),
    ([0xc6, 0x01, 0x05, 0x00, 0xff, 0xff, 0xff, 0xff], [(.r1, 0xfffffffe)], 16),
    ([0xdd, 0x21, 0x05, 0x00, 0x00, 0x00, 0x00, 0x00], [(.r1, 0xffffffffffffffff), (.r2, 0xffffffffffffffff)], 16),
    ([0xdd, 0x21, 0x05, 0x00, 0x00, 0x00, 0x00, 0x00], [(.r1, 0x0), (.r2, 0xffffffffffffffff)], 11),
    ([0xd5, 0x01, 0x05, 0x00, 0xff, 0xff, 0xff, 0xff], [(.r1, 0xffffffffffffffff)], 16),
    ([0xde, 0x21, 0x05, 0x00, 0x00, 0x00, 0x00, 0x00], [(.r1, 0xffffffff), (.r2, 0x0)], 16),
    ([0xd6, 0x01, 0x05, 0x00, 0xff, 0xff, 0xff, 0x7f], [(.r1, 0x7fffffff)], 16),
    ([0x1d, 0x11, 0xf5, 0xff, 0x00, 0x00, 0x00, 0x00], [(.r1, 0x3)], 0),
    ([0x2d, 0x11, 0x05, 0x00, 0x00, 0x00, 0x00, 0x00], [(.r1, 0x3)], 11)] = true := by decide

/-- J66. -/
theorem test_vectors_jump_4 : jumps [
    ([0x15, 0x01, 0xff, 0xff, 0x00, 0x00, 0x00, 0x00], [(.r1, 0x0)], 10)] = true := by decide

/-- M01, M02, M03, M04, M06, M09, M10, M11, M12, M13, M15, M16, M20, M21. -/
theorem test_vectors_load : vectors bench 0 1 [
    ([0x61, 0x12, 0x00, 0x00, 0x00, 0x00, 0x00, 0x00], [(.r1, 0x1000)], [(.r2, 0x55667788)]),
    ([0x69, 0x12, 0x00, 0x00, 0x00, 0x00, 0x00, 0x00], [(.r1, 0x1000)], [(.r2, 0x7788)]),
    ([0x71, 0x12, 0x00, 0x00, 0x00, 0x00, 0x00, 0x00], [(.r1, 0x1000)], [(.r2, 0x88)]),
    ([0x79, 0x12, 0x00, 0x00, 0x00, 0x00, 0x00, 0x00], [(.r1, 0x1000)], [(.r2, 0x1122334455667788)]),
    ([0x69, 0x12, 0x08, 0x00, 0x00, 0x00, 0x00, 0x00], [(.r1, 0x1000)], [(.r2, 0xdef0)]),
    ([0x81, 0x12, 0x08, 0x00, 0x00, 0x00, 0x00, 0x00], [(.r1, 0x1000)], [(.r2, 0xffffffff9abcdef0)]),
    ([0x89, 0x12, 0x08, 0x00, 0x00, 0x00, 0x00, 0x00], [(.r1, 0x1000)], [(.r2, 0xffffffffffffdef0)]),
    ([0x91, 0x12, 0x08, 0x00, 0x00, 0x00, 0x00, 0x00], [(.r1, 0x1000)], [(.r2, 0xfffffffffffffff0)]),
    ([0x81, 0x12, 0x04, 0x00, 0x00, 0x00, 0x00, 0x00], [(.r1, 0x1000)], [(.r2, 0x11223344)]),
    ([0x89, 0x12, 0x02, 0x00, 0x00, 0x00, 0x00, 0x00], [(.r1, 0x1000)], [(.r2, 0x5566)]),
    ([0x91, 0x12, 0x00, 0x00, 0x00, 0x00, 0x00, 0x00], [(.r1, 0x1000)], [(.r2, 0xffffffffffffff88)]),
    ([0x79, 0x12, 0xf8, 0xff, 0x00, 0x00, 0x00, 0x00], [(.r1, 0x1010)], [(.r2, 0x123456789abcdef0)]),
    ([0x71, 0x12, 0x01, 0x10, 0x00, 0x00, 0x00, 0x00], [(.r1, 0xffffffffffffffff)], [(.r2, 0x88)]),
    ([0x61, 0x12, 0x00, 0xf0, 0x00, 0x00, 0x00, 0x00], [(.r1, 0x2004)], [(.r2, 0x11223344)])] = true := by decide

/-- M22, M23, M24, M25, M26, M27, M28, M29, M30, M31, M32. -/
theorem test_vectors_store : stores [
    ([0x62, 0x01, 0x00, 0x00, 0xfe, 0xff, 0xff, 0xff], [(.r1, 0x1000)], [],
      [0xfe, 0xff, 0xff, 0xff, 0x44, 0x33, 0x22, 0x11, 0xf0, 0xde, 0xbc, 0x9a, 0x78, 0x56, 0x34, 0x12]),
    ([0x6a, 0x01, 0x02, 0x00, 0xfe, 0xff, 0xff, 0xff], [(.r1, 0x1000)], [],
      [0x88, 0x77, 0xfe, 0xff, 0x44, 0x33, 0x22, 0x11, 0xf0, 0xde, 0xbc, 0x9a, 0x78, 0x56, 0x34, 0x12]),
    ([0x72, 0x01, 0x05, 0x00, 0xff, 0x01, 0x00, 0x00], [(.r1, 0x1000)], [],
      [0x88, 0x77, 0x66, 0x55, 0x44, 0xff, 0x22, 0x11, 0xf0, 0xde, 0xbc, 0x9a, 0x78, 0x56, 0x34, 0x12]),
    ([0x7a, 0x01, 0x08, 0x00, 0xfe, 0xff, 0xff, 0xff], [(.r1, 0x1000)], [],
      [0x88, 0x77, 0x66, 0x55, 0x44, 0x33, 0x22, 0x11, 0xfe, 0xff, 0xff, 0xff, 0xff, 0xff, 0xff, 0xff]),
    ([0x7a, 0x01, 0x00, 0x00, 0xff, 0xff, 0xff, 0x7f], [(.r1, 0x1000)], [],
      [0xff, 0xff, 0xff, 0x7f, 0x00, 0x00, 0x00, 0x00, 0xf0, 0xde, 0xbc, 0x9a, 0x78, 0x56, 0x34, 0x12]),
    ([0x63, 0x21, 0x04, 0x00, 0x00, 0x00, 0x00, 0x00], [(.r1, 0x1000), (.r2, 0xaabbccddeeff0011)], [],
      [0x88, 0x77, 0x66, 0x55, 0x11, 0x00, 0xff, 0xee, 0xf0, 0xde, 0xbc, 0x9a, 0x78, 0x56, 0x34, 0x12]),
    ([0x6b, 0x21, 0x06, 0x00, 0x00, 0x00, 0x00, 0x00], [(.r1, 0x1000), (.r2, 0xaabbccddeeff0011)], [],
      [0x88, 0x77, 0x66, 0x55, 0x44, 0x33, 0x11, 0x00, 0xf0, 0xde, 0xbc, 0x9a, 0x78, 0x56, 0x34, 0x12]),
    ([0x73, 0x21, 0x0f, 0x00, 0x00, 0x00, 0x00, 0x00], [(.r1, 0x1000), (.r2, 0xaabbccddeeff0011)], [],
      [0x88, 0x77, 0x66, 0x55, 0x44, 0x33, 0x22, 0x11, 0xf0, 0xde, 0xbc, 0x9a, 0x78, 0x56, 0x34, 0x11]),
    ([0x7b, 0x21, 0x08, 0x00, 0x00, 0x00, 0x00, 0x00], [(.r1, 0x1000), (.r2, 0xaabbccddeeff0011)], [],
      [0x88, 0x77, 0x66, 0x55, 0x44, 0x33, 0x22, 0x11, 0x11, 0x00, 0xff, 0xee, 0xdd, 0xcc, 0xbb, 0xaa]),
    ([0x7b, 0x11, 0x00, 0x00, 0x00, 0x00, 0x00, 0x00], [(.r1, 0x1000)], [],
      [0x00, 0x10, 0x00, 0x00, 0x00, 0x00, 0x00, 0x00, 0xf0, 0xde, 0xbc, 0x9a, 0x78, 0x56, 0x34, 0x12]),
    ([0x63, 0x21, 0xfc, 0xff, 0x00, 0x00, 0x00, 0x00], [(.r1, 0x1010), (.r2, 0x0)], [],
      [0x88, 0x77, 0x66, 0x55, 0x44, 0x33, 0x22, 0x11, 0xf0, 0xde, 0xbc, 0x9a, 0x00, 0x00, 0x00, 0x00])] = true := by decide

/-- T01, T02, T03, T04, T05, T06, T07, T08, T09, T10, T11, T12, T13, T14, T15, T16, T17, T19, T20, T21. -/
theorem test_vectors_atomic_1 : stores [
    ([0xc3, 0x21, 0x00, 0x00, 0x00, 0x00, 0x00, 0x00], [(.r1, 0x1000), (.r2, 0xffffffff000000ff)], [(.r2, 0xffffffff000000ff)],
      [0x87, 0x78, 0x66, 0x55, 0x44, 0x33, 0x22, 0x11, 0xf0, 0xde, 0xbc, 0x9a, 0x78, 0x56, 0x34, 0x12]),
    ([0xdb, 0x21, 0x08, 0x00, 0x00, 0x00, 0x00, 0x00], [(.r1, 0x1000), (.r2, 0xffffffff000000ff)], [(.r2, 0xffffffff000000ff)],
      [0x88, 0x77, 0x66, 0x55, 0x44, 0x33, 0x22, 0x11, 0xef, 0xdf, 0xbc, 0x9a, 0x77, 0x56, 0x34, 0x12]),
    ([0xc3, 0x21, 0x08, 0x00, 0x01, 0x00, 0x00, 0x00], [(.r1, 0x1000), (.r2, 0xffffffff000000ff)], [(.r2, 0x9abcdef0)],
      [0x88, 0x77, 0x66, 0x55, 0x44, 0x33, 0x22, 0x11, 0xef, 0xdf, 0xbc, 0x9a, 0x78, 0x56, 0x34, 0x12]),
    ([0xdb, 0x21, 0x00, 0x00, 0x01, 0x00, 0x00, 0x00], [(.r1, 0x1000), (.r2, 0xffffffff000000ff)], [(.r2, 0x1122334455667788)],
      [0x87, 0x78, 0x66, 0x55, 0x43, 0x33, 0x22, 0x11, 0xf0, 0xde, 0xbc, 0x9a, 0x78, 0x56, 0x34, 0x12]),
    ([0xc3, 0x21, 0x00, 0x00, 0x40, 0x00, 0x00, 0x00], [(.r1, 0x1000), (.r2, 0xffffffff000000ff)], [(.r2, 0xffffffff000000ff)],
      [0xff, 0x77, 0x66, 0x55, 0x44, 0x33, 0x22, 0x11, 0xf0, 0xde, 0xbc, 0x9a, 0x78, 0x56, 0x34, 0x12]),
    ([0xdb, 0x21, 0x08, 0x00, 0x40, 0x00, 0x00, 0x00], [(.r1, 0x1000), (.r2, 0xffffffff000000ff)], [(.r2, 0xffffffff000000ff)],
      [0x88, 0x77, 0x66, 0x55, 0x44, 0x33, 0x22, 0x11, 0xff, 0xde, 0xbc, 0x9a, 0xff, 0xff, 0xff, 0xff]),
    ([0xc3, 0x21, 0x08, 0x00, 0x41, 0x00, 0x00, 0x00], [(.r1, 0x1000), (.r2, 0xffffffff000000ff)], [(.r2, 0x9abcdef0)],
      [0x88, 0x77, 0x66, 0x55, 0x44, 0x33, 0x22, 0x11, 0xff, 0xde, 0xbc, 0x9a, 0x78, 0x56, 0x34, 0x12]),
    ([0xdb, 0x21, 0x00, 0x00, 0x41, 0x00, 0x00, 0x00], [(.r1, 0x1000), (.r2, 0xffffffff000000ff)], [(.r2, 0x1122334455667788)],
      [0xff, 0x77, 0x66, 0x55, 0xff, 0xff, 0xff, 0xff, 0xf0, 0xde, 0xbc, 0x9a, 0x78, 0x56, 0x34, 0x12]),
    ([0xc3, 0x21, 0x00, 0x00, 0x50, 0x00, 0x00, 0x00], [(.r1, 0x1000), (.r2, 0xffffffff000000ff)], [(.r2, 0xffffffff000000ff)],
      [0x88, 0x00, 0x00, 0x00, 0x44, 0x33, 0x22, 0x11, 0xf0, 0xde, 0xbc, 0x9a, 0x78, 0x56, 0x34, 0x12]),
    ([0xdb, 0x21, 0x08, 0x00, 0x50, 0x00, 0x00, 0x00], [(.r1, 0x1000), (.r2, 0xffffffff000000ff)], [(.r2, 0xffffffff000000ff)],
      [0x88, 0x77, 0x66, 0x55, 0x44, 0x33, 0x22, 0x11, 0xf0, 0x00, 0x00, 0x00, 0x78, 0x56, 0x34, 0x12]),
    ([0xc3, 0x21, 0x08, 0x00, 0x51, 0x00, 0x00, 0x00], [(.r1, 0x1000), (.r2, 0xffffffff000000ff)], [(.r2, 0x9abcdef0)],
      [0x88, 0x77, 0x66, 0x55, 0x44, 0x33, 0x22, 0x11, 0xf0, 0x00, 0x00, 0x00, 0x78, 0x56, 0x34, 0x12]),
    ([0xdb, 0x21, 0x00, 0x00, 0x51, 0x00, 0x00, 0x00], [(.r1, 0x1000), (.r2, 0xffffffff000000ff)], [(.r2, 0x1122334455667788)],
      [0x88, 0x00, 0x00, 0x00, 0x44, 0x33, 0x22, 0x11, 0xf0, 0xde, 0xbc, 0x9a, 0x78, 0x56, 0x34, 0x12]),
    ([0xc3, 0x21, 0x00, 0x00, 0xa0, 0x00, 0x00, 0x00], [(.r1, 0x1000), (.r2, 0xffffffff000000ff)], [(.r2, 0xffffffff000000ff)],
      [0x77, 0x77, 0x66, 0x55, 0x44, 0x33, 0x22, 0x11, 0xf0, 0xde, 0xbc, 0x9a, 0x78, 0x56, 0x34, 0x12]),
    ([0xdb, 0x21, 0x08, 0x00, 0xa0, 0x00, 0x00, 0x00], [(.r1, 0x1000), (.r2, 0xffffffff000000ff)], [(.r2, 0xffffffff000000ff)],
      [0x88, 0x77, 0x66, 0x55, 0x44, 0x33, 0x22, 0x11, 0x0f, 0xde, 0xbc, 0x9a, 0x87, 0xa9, 0xcb, 0xed]),
    ([0xc3, 0x21, 0x08, 0x00, 0xa1, 0x00, 0x00, 0x00], [(.r1, 0x1000), (.r2, 0xffffffff000000ff)], [(.r2, 0x9abcdef0)],
      [0x88, 0x77, 0x66, 0x55, 0x44, 0x33, 0x22, 0x11, 0x0f, 0xde, 0xbc, 0x9a, 0x78, 0x56, 0x34, 0x12]),
    ([0xdb, 0x21, 0x00, 0x00, 0xa1, 0x00, 0x00, 0x00], [(.r1, 0x1000), (.r2, 0xffffffff000000ff)], [(.r2, 0x1122334455667788)],
      [0x77, 0x77, 0x66, 0x55, 0xbb, 0xcc, 0xdd, 0xee, 0xf0, 0xde, 0xbc, 0x9a, 0x78, 0x56, 0x34, 0x12]),
    ([0xc3, 0x21, 0x00, 0x00, 0x00, 0x00, 0x00, 0x00], [(.r1, 0x1000), (.r2, 0xaa998879)], [(.r2, 0xaa998879)],
      [0x01, 0x00, 0x00, 0x00, 0x44, 0x33, 0x22, 0x11, 0xf0, 0xde, 0xbc, 0x9a, 0x78, 0x56, 0x34, 0x12]),
    ([0xc3, 0x21, 0x04, 0x00, 0xe1, 0x00, 0x00, 0x00], [(.r1, 0x1000), (.r2, 0xffffffff000000ff)], [(.r2, 0x11223344)],
      [0x88, 0x77, 0x66, 0x55, 0xff, 0x00, 0x00, 0x00, 0xf0, 0xde, 0xbc, 0x9a, 0x78, 0x56, 0x34, 0x12]),
    ([0xdb, 0x21, 0x08, 0x00, 0xe1, 0x00, 0x00, 0x00], [(.r1, 0x1000), (.r2, 0xffffffff000000ff)], [(.r2, 0x123456789abcdef0)],
      [0x88, 0x77, 0x66, 0x55, 0x44, 0x33, 0x22, 0x11, 0xff, 0x00, 0x00, 0x00, 0xff, 0xff, 0xff, 0xff]),
    ([0xc3, 0x21, 0x00, 0x00, 0xf1, 0x00, 0x00, 0x00], [(.r0, 0xdeadbeef55667788), (.r1, 0x1000), (.r2, 0xffffffff000000ff)], [(.r0, 0x55667788), (.r2, 0xffffffff000000ff)],
      [0xff, 0x00, 0x00, 0x00, 0x44, 0x33, 0x22, 0x11, 0xf0, 0xde, 0xbc, 0x9a, 0x78, 0x56, 0x34, 0x12])] = true := by decide

/-- T22, T23, T25, T26, T27, T41. -/
theorem test_vectors_atomic_2 : stores [
    ([0xc3, 0x21, 0x00, 0x00, 0xf1, 0x00, 0x00, 0x00], [(.r0, 0x55667789), (.r1, 0x1000), (.r2, 0xffffffff000000ff)], [(.r0, 0x55667788), (.r2, 0xffffffff000000ff)],
      [0x88, 0x77, 0x66, 0x55, 0x44, 0x33, 0x22, 0x11, 0xf0, 0xde, 0xbc, 0x9a, 0x78, 0x56, 0x34, 0x12]),
    ([0xdb, 0x21, 0x00, 0x00, 0xf1, 0x00, 0x00, 0x00], [(.r0, 0x1122334455667788), (.r1, 0x1000), (.r2, 0xffffffff000000ff)], [(.r0, 0x1122334455667788), (.r2, 0xffffffff000000ff)],
      [0xff, 0x00, 0x00, 0x00, 0xff, 0xff, 0xff, 0xff, 0xf0, 0xde, 0xbc, 0x9a, 0x78, 0x56, 0x34, 0x12]),
    ([0xdb, 0x01, 0x00, 0x00, 0xf1, 0x00, 0x00, 0x00], [(.r0, 0x1122334455667788), (.r1, 0x1000)], [(.r0, 0x1122334455667788)],
      [0x88, 0x77, 0x66, 0x55, 0x44, 0x33, 0x22, 0x11, 0xf0, 0xde, 0xbc, 0x9a, 0x78, 0x56, 0x34, 0x12]),
    ([0xdb, 0x11, 0x00, 0x00, 0x01, 0x00, 0x00, 0x00], [(.r1, 0x1000)], [(.r1, 0x1122334455667788)],
      [0x88, 0x87, 0x66, 0x55, 0x44, 0x33, 0x22, 0x11, 0xf0, 0xde, 0xbc, 0x9a, 0x78, 0x56, 0x34, 0x12]),
    ([0xdb, 0x11, 0x00, 0x00, 0xe1, 0x00, 0x00, 0x00], [(.r1, 0x1000)], [(.r1, 0x1122334455667788)],
      [0x00, 0x10, 0x00, 0x00, 0x00, 0x00, 0x00, 0x00, 0xf0, 0xde, 0xbc, 0x9a, 0x78, 0x56, 0x34, 0x12]),
    ([0xdb, 0xa1, 0x00, 0x00, 0x00, 0x00, 0x00, 0x00], [(.r1, 0x1000), (.r10, 0x2000)], [],
      [0x88, 0x97, 0x66, 0x55, 0x44, 0x33, 0x22, 0x11, 0xf0, 0xde, 0xbc, 0x9a, 0x78, 0x56, 0x34, 0x12])] = true := by decide

/-! ### Loads and stores that fault, and the order of checks (M43, M44 to M52, O03 to O06) -/

theorem test_misaligned_before_admission :
    endsIn (start bench 0 [0x61, 0x12, 0x12, 0, 0, 0, 0, 0] [(.r1, 0x1000)]) (.misaligned 0x1012 4) = true := by decide
theorem test_admission_without_strict_alignment :
    endsIn (start { bench with strictAlign := false } 0 [0x61, 0x12, 0x12, 0, 0, 0, 0, 0] [(.r1, 0x1000)])
      (.memoryFault 0x1012 4 .read) = true := by decide
theorem test_unwritten_source_before_admission :
    endsIn (start bench 0 [0x63, 0x21, 0x10, 0, 0, 0, 0, 0] [(.r1, 0x1000)]) (.unwrittenRegister .r2) = true := by decide
theorem test_cmpxchg_reads_source_before_r0 :
    endsIn (start bench 0 [0xdb, 0x21, 0, 0, 0xf1, 0, 0, 0] [(.r1, 0x1004)]) (.unwrittenRegister .r2) = true := by decide
theorem test_atomic_misaligned_without_strict_alignment :
    endsIn (start { bench with strictAlign := false } 0 [0xdb, 0x21, 4, 0, 0, 0, 0, 0] [(.r1, 0x1000), (.r2, 1)])
      (.misaligned 0x1004 8) = true := by decide
theorem test_load_misaligned_without_strict_alignment :
    leadsTo (start { bench with strictAlign := false } 0 [0x79, 0x12, 4, 0, 0, 0, 0, 0] [(.r1, 0x1000)])
      [(.r2, 0x9abcdef011223344)] 1 bytes16 = true := by decide
/-- T41: R10 may be the operand of an atomic operation that does not fetch. -/
theorem test_atomic_operand_r10 :
    leadsTo (start bench 0 [0xdb, 0xa1, 0, 0, 0, 0, 0, 0] [(.r1, 0x1000), (.r10, 0x2000)]) [(.r10, 0x2000)] 1
      [0x88, 0x97, 0x66, 0x55, 0x44, 0x33, 0x22, 0x11, 0xf0, 0xde, 0xbc, 0x9a, 0x78, 0x56, 0x34, 0x12] = true := by decide

/-! ### Calls and exit (C01 to C10) -/

/-- The registers of C01. -/
def callerRegs : List (Reg × Nat) := [(.r1, 5), (.r6, 1), (.r7, 2), (.r8, 3), (.r9, 4), (.r10, 0x20000)]

/-- The frame of C01. -/
def callerFrame : Frame := ⟨4, .word 1, .word 2, .word 3, .word 4, .word 0x20000⟩

/-- C01: `call 2` at slot 3. -/
theorem test_call_local :
    step (start bench 3 [0x85, 0x10, 0, 0, 2, 0, 0, 0] callerRegs) =
      .next { start bench 3 [0x85, 0x10, 0, 0, 2, 0, 0, 0] [(.r1, 5), (.r10, 0x1fe00)] with
        cs := [callerFrame], pc := 6 } := by rfl
/-- C02: the return from it. -/
theorem test_exit_to_caller :
    step { start bench 9 [0x95] [(.r0, 9), (.r1, 5), (.r6, 100), (.r10, 0x1fe00)] with cs := [callerFrame] } =
      .next { start bench 9 [0x95] [(.r0, 9), (.r6, 1), (.r7, 2), (.r8, 3), (.r9, 4), (.r10, 0x20000)] with pc := 4 } := by
  rfl
/-- C03, C04: the outermost exit reads R0. -/
theorem test_exit_ends_the_run :
    step (start bench 0 [0x95] [(.r0, 7)]) = .next { start bench 0 [0x95] [(.r0, 7)] with st := .exited 7 } := by rfl
theorem test_exit_without_result : endsIn (start bench 0 [0x95] []) (.unwrittenRegister .r0) = true := by decide
/-- C06: the eighth nested call. -/
theorem test_call_depth :
    endsIn { start bench 0 [0x85, 0x10, 0, 0, 0xff, 0xff, 0xff, 0xff] [(.r10, 0x1f200)] with
      cs := List.replicate 7 callerFrame } .callDepthExceeded = true := by decide
/-- C08: `HelperByAddr(1)` answers R1 + R2 = 7. -/
theorem test_call_helper :
    step { start bench 0 [0x85, 0, 0, 0, 1, 0, 0, 0] [(.r1, 3), (.r2, 4), (.r6, 8)] with helperQueue := [⟨7, []⟩] } =
      .next { start bench 0 [0x85, 0, 0, 0, 1, 0, 0, 0] [(.r0, 7), (.r6, 8)] with pc := 1 } := by rfl
/-- A helper by BTF ID that writes a byte. -/
theorem test_call_btf_writes_memory :
    leadsTo { start bench 0 [0x85, 0x20, 0, 0, 7, 0, 0, 0] [] with helperQueue := [⟨9, [(0x1000, 1)]⟩] } [(.r0, 9)] 1
      [0x01, 0x77, 0x66, 0x55, 0x44, 0x33, 0x22, 0x11, 0xf0, 0xde, 0xbc, 0x9a, 0x78, 0x56, 0x34, 0x12] = true := by decide
/-- C09, C10. -/
theorem test_call_unknown_helper :
    (endsIn (start bench 0 [0x85, 0, 0, 0, 99, 0, 0, 0] []) (.unknownHelper 99) &&
      endsIn (start bench 0 [0x85, 0x20, 0, 0, 42, 0, 0, 0] []) (.unknownHelper 42)) = true := by decide

/-! ### 64-bit immediates (W01, W04, W06, W13 to W21) and legacy instructions (O09) -/

/-- The bytes of a wide instruction with `dst_reg` 1: subtype, `imm`, low byte of `next_imm`. -/
def wide (subtype imm next : Nat) : List Nat :=
  [0x18, 16 * subtype + 1, 0, 0, imm, 0, 0, 0, 0, 0, 0, 0, next, 0, 0, 0]

theorem test_imm64 : vectors bench 0 2 [
    ([0x18, 0x01, 0, 0, 0x88, 0x77, 0x66, 0x55, 0, 0, 0, 0, 0x44, 0x33, 0x22, 0x11], [], [(.r1, 0x1122334455667788)]),
    ([0x18, 0x01, 0, 0, 0, 0, 0, 0x80, 0, 0, 0, 0, 0, 0, 0, 0x80], [], [(.r1, 0x8000000080000000)])] = true := by decide
theorem test_imm64_bigEndian : vectors { bench with endian := .big } 0 2 [
    ([0x18, 0x10, 0, 0, 0x55, 0x66, 0x77, 0x88, 0, 0, 0, 0, 0x11, 0x22, 0x33, 0x44], [],
      [(.r1, 0x1122334455667788)])] = true := by decide
theorem test_lookups : vectors bench 0 2 [
    (wide 1 5 0, [], [(.r1, 0x2000)]), (wide 2 5 0x10, [], [(.r1, 0x3010)]), (wide 3 7 0, [], [(.r1, 0x4000)]),
    (wide 5 0 0, [], [(.r1, 0x2000)]), (wide 6 0 8, [], [(.r1, 0x3008)])] = true := by decide
theorem test_lookup_of_code_address : vectors bench 2 4 [(wide 4 3 0, [], [(.r1, 0x9000)])] = true := by decide
theorem test_lookups_that_fail :
    (endsIn (start bench 0 (wide 1 6 0) []) (.platformLookupFailed (.mapFd 6)) &&
      endsIn (start bench 0 (wide 3 8 0) []) (.platformLookupFailed (.varId 8)) &&
      endsIn (start bench 0 (wide 5 1 0) []) (.platformLookupFailed (.mapIdx 1)) &&
      endsIn (start bench 0 (wide 4 4 0) []) (.platformLookupFailed (.code 4))) = true := by decide
theorem test_legacy_opcodes :
    ([0x20, 0x28, 0x30, 0x38, 0x40, 0x48, 0x50, 0x58].all fun op =>
      endsIn (start bench 0 [op, 0xff, 0xff, 0xff, 0xff, 0xff, 0xff, 0xff] [])
        (.legacyInstruction (BitVec.ofNat 8 op))) = true := by decide

/-! ### The host's words -/

/-- Reset has no program: the first step finds none (notes/assumptions/12.md). -/
theorem test_reset_has_no_program : endsIn State.reset (.pcOutOfRange 0) = true := by decide
/-- A word placed by `withFetchWord` is the next instruction: `r1 += -1`, then a wide instruction. -/
theorem test_withFetchWord :
    leadsTo (State.reset.withFetchWord 64 0xffffffff00000107) [(.r1, 0x7fff)] 1 [] &&
      leadsTo (State.reset.withFetchWord 128 0x11223344000000005566778800000118) [(.r1, 0x1122334455667788)] 2 [] = true := by
  decide

/-! ### For each statement with hypotheses: values that meet them -/

/-- Three slots, `call 1` (program-local) and `exit` twice, and every register written. -/
def sample : State :=
  { start bench 0 [0x85, 0x10, 0, 0, 1, 0, 0, 0, 0x95, 0, 0, 0, 0, 0, 0, 0, 0x95, 0, 0, 0, 0, 0, 0, 0] [] with
    regs := regsOf [(.r0, 0x55667788), (.r1, 0x1000), (.r2, 0x100c), (.r3, 0x100f), (.r4, 0x1008), (.r5, 0x100e), (.r6, 6),
      (.r7, 0xfffffffffffffff9), (.r8, 8), (.r9, 0), (.r10, 0x20000)] }

/-- `sample` inside the function it calls. -/
def callee : State :=
  { sample with
    regs := regsOf [(.r0, 1), (.r10, 0x1fe00)], pc := 2,
    cs := [⟨1, sample.regs.r6, sample.regs.r7, sample.regs.r8, sample.regs.r9, sample.regs.r10⟩] }

/-- `sample` with other bytes as its program. -/
def sampleWith (bs : List Nat) : State := { start bench 0 bs [] with regs := sample.regs }

/-- The first and the last register with a further entry value. -/
theorem witness_ResetIsTheEntryState : [Reg.r2, .r3, .r4, .r5][0]? = some .r2 ∧ [Reg.r2, .r3, .r4, .r5][3]? = some .r5 :=
  ⟨rfl, rfl⟩
/-- The operands of a row: a register that may be written, and the greatest `next_imm` of a map-value subtype. -/
theorem witness_WordsOfTheSpecDecode : Reg.r9 ≠ .r10 ∧ (0x7fffffff#32).toNat < 2 ^ 31 := by decide
theorem witness_InvariantHoldsAtReset : memoryWf [] = true ∧ memoryWf [(0, 1), (2 ^ 64 - 1, 2)] = true := by decide
theorem sample_inv : sample.Inv := ⟨by decide, by decide, by decide, by decide, by decide⟩
theorem callee_inv : callee.Inv := ⟨by decide, by decide, by decide, by decide, by decide⟩
/-- A call, a return, and an ordinary instruction. -/
theorem witness_EveryStepKeepsTheInvariant :
    (sample.Inv ∧ ∃ t, step sample = .next t) ∧ (callee.Inv ∧ ∃ t, step callee = .next t) ∧
      (State.reset.withFetchWord 64 0x107).Inv ∧ ∃ t, step (State.reset.withFetchWord 64 0x107) = .next t :=
  ⟨⟨sample_inv, _, rfl⟩, ⟨callee_inv, _, rfl⟩, ⟨by decide, by decide, by decide, by decide, by decide⟩, _, rfl⟩
theorem witness_DecodeOfEncodeIsTheInstruction :
    (Instr.movsx32to64 .r9 .r10).wellFormed ∧ (Instr.ldMapFdVal .r9 5 0x7fffffff).wellFormed ∧
      (Instr.ldAbsW 15 15 0xffff 0xffffffff).wellFormed := by decide
theorem witness_EncodeOfDecodeIsTheWord :
    dec .little [0x95] = .ok .exit ∧ dec .little (wide 2 5 0x10) = .ok (.ldMapFdVal .r1 5 0x10) := by decide
theorem witness_UndefinedOpcodesAreExactlyTheDots : (Fields.mk 0x58 15 15 0xffff 0xffffffff).opcode.toNat ∈ legacyOpcodes := by
  decide
/-- Each clause: a rejected opcode of each class, and an accepted one for every opcode named. -/
theorem witness_LoadAndStoreOpcodes :
    (0x99 % 8 = 1 ∧ 0x99 ∉ [0x61, 0x69, 0x71, 0x79, 0x81, 0x89, 0x91]) ∧ (0x82 % 8 = 2 ∧ 0x82 ∉ [0x62, 0x6a, 0x72, 0x7a]) ∧
      ([0x61, 0x69, 0x71, 0x79, 0x81, 0x89, 0x91, 0x62, 0x6a, 0x72, 0x7a].all fun op =>
        (decodeFields ⟨BitVec.ofNat 8 op, 1, 0, 0x8000, 0⟩ none).isOk) = true ∧ Reg.r9 ≠ .r10 := by decide
theorem witness_AtomicAndRegisterStoreOpcodes :
    (0xcb % 8 = 3 ∧ 0xcb ∉ [0x63, 0x6b, 0x73, 0x7b, 0xc3, 0xdb]) ∧
      (0x100 ∉ [0x00, 0x01, 0x40, 0x41, 0x50, 0x51, 0xa0, 0xa1, 0xe1, 0xf1]) ∧
      ([0x63, 0x6b, 0x73, 0x7b].all fun op => (decodeFields ⟨BitVec.ofNat 8 op, 1, 2, 0x8000, 0⟩ none).isOk) = true ∧
      ([0xc3, 0xdb].all fun op => [0x00, 0x01, 0x40, 0x41, 0x50, 0x51, 0xa0, 0xa1, 0xe1, 0xf1].all fun k =>
        (decodeFields ⟨BitVec.ofNat 8 op, 1, 2, 0, BitVec.ofNat 32 k⟩ none).isOk) = true ∧ Reg.r9 ≠ .r10 := by decide
theorem witness_ClassLdOpcodesOutsideTheTableAreIllegal :
    let s := sampleWith [0xf8]
    s.st = .running ∧ slotAt s.prog s.pc = some (slotAtByte [0xf8] 0) ∧ (slotAtByte [0xf8] 0).b0.toNat % 8 = 0 ∧
      (slotAtByte [0xf8] 0).b0 ≠ 0x18#8 ∧
      (slotAtByte [0xf8] 0).b0.toNat ∉ [0x20, 0x28, 0x30, 0x38, 0x40, 0x48, 0x50, 0x58] := by decide
/-- Each clause: 0xdf; 0x18 with a second slot whose offset is not zero; a legacy opcode. -/
theorem witness_ReservedEncodingsRaise :
    (let s := sampleWith [0xdf]; s.st = .running ∧ slotAt s.prog s.pc = some (slotAtByte [0xdf] 0)) ∧
      (let s := sampleWith [0x18, 0, 0, 0, 0, 0, 0, 0, 0, 0, 0, 1, 0, 0, 0, 0]
       s.st = .running ∧ slotAt s.prog s.pc = some (slotAtByte [0x18] 0) ∧
         slotAt s.prog (s.pc + 1) = some (slotAtByte [0, 0, 0, 1] 0) ∧ (slotAtByte [0, 0, 0, 1] 0).b3 ≠ 0#8) ∧
      (let s := sampleWith [0x58]; s.st = .running ∧ slotAt s.prog s.pc = some (slotAtByte [0x58] 0) ∧
        (slotAtByte [0x58] 0).b0.toNat ∈ legacyOpcodes) := by decide
theorem witness_RejectedEncodingsRaiseAndChangeNothing :
    (let s := sampleWith [0x18]; s.st = .running ∧ slotAt s.prog s.pc = some (slotAtByte [0x18] 0) ∧
      decode s.plat.endian (slotAtByte [0x18] 0) (slotAt s.prog (s.pc + 1)) = .error .missingSecondSlot) ∧
      (let s := sampleWith [0x07, 0x0b]; s.st = .running ∧ slotAt s.prog s.pc = some (slotAtByte [0x07, 0x0b] 0) ∧
        decode s.plat.endian (slotAtByte [0x07, 0x0b] 0) (slotAt s.prog (s.pc + 1)) = .error .registerNumber) := by decide
theorem witness_StepRunsTheDecodedInstruction :
    (sample.st = .running ∧ 0 ≤ sample.pc ∧ sample.prog[sample.pc.toNat]? = some (slotAtByte [0x85, 0x10, 0, 0, 1] 0) ∧
      decode sample.plat.endian (slotAtByte [0x85, 0x10, 0, 0, 1] 0) (sample.prog[(sample.pc + 1).toNat]?) =
        .ok (.callLocal 1)) ∧
      (let s := sampleWith (wide 0 1 2)
       s.prog[s.pc.toNat]? = some (slotAtByte (wide 0 1 2) 0) ∧
         decode s.plat.endian (slotAtByte (wide 0 1 2) 0) (s.prog[(s.pc + 1).toNat]?) = .ok (.ldImm64 .r1 1 2)) := by decide
/-- Both sides: one below the program, and the slot after its last. -/
theorem witness_FetchOutsideTheProgramRaises :
    (let s := sample.goto (-1); s.st = .running ∧ s.pc < 0) ∧
      (let s := sample.goto 3; s.st = .running ∧ (s.prog.length : Int) = s.pc) := by decide
theorem witness_AFaultEndsTheRunAndChangesNothingElse :
    step (sampleWith [0xff]) = .fault (.illegalInstruction 0) ∧ (sample.setStatus (.exited 5)).st = .exited 5 := ⟨rfl, rfl⟩
theorem witness_InstructionsCannotReadTheProgram :
    exec (.ja 5) sample = .next (sample.goto 6) ∧ exec (.callHelper 99) sample = .fault (.unknownHelper 99) := ⟨rfl, rfl⟩
theorem witness_ReadingARegister :
    sample.regs.get .r8 = .word 8 ∧ (callee.regs.get .r8 = .unwritten ∧ callee.plat.unwrittenRead = .fault) ∧
      State.reset.regs.get .r8 = .unwritten ∧ State.reset.plat.unwrittenRead = .draw := by decide
/-- A draw gives a value on any reading: the hypotheses on readable operands hold of an unwritten register too. -/
theorem witness_readable_unwritten :
    State.reset.readReg .r8 = some (Config.freeReg 0, State.reset.nextDraw) := rfl
theorem witness_UnwrittenReadsRaiseFirstOrNever :
    (let s := sample.setReg .r2 .unwritten; let i := Instr.cmpxchg64 .r1 .r2 0
     i.wellFormed = true ∧ s.plat.unwrittenRead = .fault ∧ readsOf s.cs i = [.r1] ++ .r2 :: [.r0] ∧
       s.regs.get .r1 ≠ .unwritten ∧ s.regs.get .r2 = .unwritten) ∧ State.reset.plat.unwrittenRead = .draw := by decide
theorem witness_WritingR10IsIllegal :
    .r10 ∈ writesOf (.add64K .r10 8) ∧ .r10 ∈ writesOf (.xchg64 .r1 .r10 0) ∧ .r10 ∈ writesOf (.ldImm64 .r10 0 0) := by decide
theorem witness_RegisterFrame : (∃ t, exec (.add64X .r1 .r2) sample = .next t) ∧ .r2 ∉ writesOf (.add64X .r1 .r2) :=
  ⟨⟨_, rfl⟩, by decide⟩
/-- Both clauses; the bytes on either side of the stored word. -/
theorem witness_MemoryFrame :
    ((∃ t, exec (.add64X .r1 .r2) sample = .next t) ∧ mayChangeMemory (.add64X .r1 .r2) = false) ∧
      (∃ t, exec (.stW .r4 0xfffc 7) sample = .next t) ∧ accessOf (.stW .r4 0xfffc 7) = some ⟨.r4, 0xfffc, 4, .write⟩ ∧
      sample.readReg .r4 = some (0x1008, sample) ∧ ¬ inAccess (effectiveAddress 0x1008 0xfffc) 4 0x1003 ∧
      ¬ inAccess (effectiveAddress 0x1008 0xfffc) 4 0x1008 :=
  ⟨⟨⟨_, rfl⟩, rfl⟩, ⟨_, rfl⟩, rfl, rfl, by unfold inAccess; decide, by unfold inAccess; decide⟩
theorem witness_ControlFrame : ∃ t, exec (.fetchAdd64 .r1 .r2 8) sample = .next t := ⟨_, rfl⟩

/-- Both operands readable, dst not R10, src R10 or dst itself included: AddSubMulResults, BitwiseResults, ShiftResults,
UnsignedDivisionAndModuloResults, SignedDivisionAndModuloResults (the divisor in R9 is zero), NegAndMovResults,
SignExtendingMoveResults, ByteSwapResults. -/
theorem witness_ArithmeticResults :
    Reg.r7 ≠ .r10 ∧ sample.readReg .r7 = some (0xfffffffffffffff9, sample) ∧ sample.readReg .r9 = some (0, sample) ∧
      sample.readReg .r10 = some (0x20000, sample) := ⟨by decide, rfl, rfl, rfl⟩
/-- The narrowest operand, equal widths, the highest bit, and the 32-bit target of MOVSX. -/
theorem witness_SignExtensionCopiesTheSignBit :
    (0 < 1 ∧ 1 ≤ 64 ∧ 0 < 64) ∧ (64 ≤ 64 ∧ 63 < 64) ∧ (8 ≤ 32 ∧ 31 < 32) := by decide
theorem witness_ByteSwapResults :
    sample.plat.endian = .little ∧ { sample with plat := { bench with endian := .big } }.plat.endian = .big := ⟨rfl, rfl⟩
/-- The last byte of each width. -/
theorem witness_ByteSwapReversesBytes : 1 < 2 ∧ 3 < 4 ∧ 7 < 8 := by decide
/-- EqualityAndBitTestJumpResults, UnsignedJumpResults, SignedJumpResults. -/
theorem witness_JumpResults : sample.readReg .r7 = some (0xfffffffffffffff9, sample) ∧ sample.readReg .r8 = some (8, sample) :=
  ⟨rfl, rfl⟩
/-- Each clause: a helper with a queued answer, without one, an unknown one; by number and by BTF ID. -/
theorem witness_HelperCallResults :
    sample.plat.helpersByAddr.contains 1 = true ∧ sample.plat.helpersByBtf.contains 7 = true ∧ sample.helperQueue = [] ∧
      { sample with helperQueue := [⟨7, []⟩] }.helperQueue = ⟨7, []⟩ :: [] ∧
      sample.plat.helpersByAddr.contains 2 = false ∧ sample.plat.helpersByBtf.contains 8 = false := by decide
/-- Both clauses at the boundary: six frames and seven. -/
theorem witness_LocalCallResult :
    (sample.setCs (List.replicate 6 callerFrame)).cs.length < sample.plat.maxCallDepth ∧
      sample.plat.maxCallDepth ≤ (sample.setCs (List.replicate 7 callerFrame)).cs.length := by decide
theorem witness_ExitResults :
    (sample.cs = [] ∧ sample.readReg .r0 = some (0x55667788, sample)) ∧ callee.cs = ⟨1, .word 6, .word 0xfffffffffffffff9,
      .word 8, .word 0, .word 0x20000⟩ :: [] := ⟨⟨rfl, rfl⟩, rfl⟩
theorem witness_CallThenExitReturnsToTheCaller : (∃ t, exec (.callLocal 1) sample = .next t) ∧
    exec (.callLocal 1) sample = .next { callee with regs := ((sample.clobberSaved).setReg .r10 (.word 0x1fe00)).regs } :=
  ⟨⟨_, rfl⟩, rfl⟩
/-- The last address each width is admitted at on the bench, and the bytes below R10: LoadResults,
SignExtendingLoadResults, ImmediateStoreResults, RegisterStoreResults. -/
theorem witness_LoadAndStoreResults :
    sample.readReg .r1 = some (0x1000, sample) ∧ ([AccessKind.read, .write].all fun k =>
      memAdmit bench 0x100f 1 k && memAdmit bench 0x100e 2 k && memAdmit bench 0x100c 4 k && memAdmit bench 0x1008 8 k &&
        memAdmit bench 0x1fff8 8 k) = true ∧
      (0x1000#64 + (0xf#16).signExtend 64 = 0x100f#64 ∧ 0x20000#64 + (0xfff8#16).signExtend 64 = 0x1fff8#64) ∧
      (0x100f#64).toNat % 1 = 0 ∧ (0x100e#64).toNat % 2 = 0 ∧ (0x100c#64).toNat % 4 = 0 ∧ (0x1008#64).toNat % 8 = 0 :=
  ⟨rfl, by decide, by decide, by decide⟩
/-- The first and last byte of a double word, and the bytes beside it. -/
theorem witness_MemoryByteOrder : 0 < 8 ∧ 7 < 8 ∧ ¬ inAccess 0x1008 8 0x1007 ∧ ¬ inAccess 0x1008 8 0x1010 := by
  unfold inAccess; decide
theorem witness_LoadAfterStoreReturnsTheStoredBits :
    sample.regs.get .r1 = .word 0x1000 ∧ sample.regs.get .r7 = .word 0xfffffffffffffff9 ∧ Reg.r1 ≠ .r10 ∧
      ((∃ t, exec (.stxB .r1 .r7 15) sample = .next t) ∧ memAdmit sample.plat 0x100f 1 .read = true) ∧
      ((∃ t, exec (.stxH .r1 .r7 14) sample = .next t) ∧ memAdmit sample.plat 0x100e 2 .read = true) ∧
      ((∃ t, exec (.stxW .r1 .r7 12) sample = .next t) ∧ memAdmit sample.plat 0x100c 4 .read = true) ∧
      ((∃ t, exec (.stxDW .r1 .r7 8) sample = .next t) ∧ memAdmit sample.plat 0x1008 8 .read = true) :=
  ⟨rfl, rfl, by decide, ⟨⟨_, rfl⟩, by decide⟩, ⟨⟨_, rfl⟩, by decide⟩, ⟨⟨_, rfl⟩, by decide⟩, ⟨⟨_, rfl⟩, by decide⟩⟩
/-- The last double word of the address space. -/
theorem witness_NarrowReadsOfAWideStore :
    0x1122334455667788 < 2 ^ 64 ∧ (0xfffffffffffffff8#64).toNat + 8 ≤ 2 ^ 64 := by decide
/-- A load, a store and an atomic operation at 0x1001, 0x100f and 0x100c; the atomic one without `STRICT_ALIGN` too. -/
theorem witness_MisalignedAccessRaises :
    (let i := Instr.ldxH .r9 .r1 1
     i.wellFormed = true ∧ accessOf i = some ⟨.r1, 1, 2, .read⟩ ∧ (∀ r ∈ readsOf sample.cs i, sample.regs.get r ≠ .unwritten) ∧
       sample.regs.get .r1 = .word 0x1000 ∧ (0x1001#64).toNat % 2 ≠ 0 ∧ sample.plat.strictAlign = true) ∧
      (let i := Instr.stW .r3 0 1
       i.wellFormed = true ∧ accessOf i = some ⟨.r3, 0, 4, .write⟩ ∧ sample.regs.get .r3 = .word 0x100f ∧
         (∀ r ∈ readsOf sample.cs i, sample.regs.get r ≠ .unwritten) ∧ (0x100f#64).toNat % 4 ≠ 0) ∧
      (let i := Instr.cmpxchg64 .r2 .r6 0
       let s := { sample with plat := { bench with strictAlign := false } }
       i.wellFormed = true ∧ accessOf i = some ⟨.r2, 0, 8, .atomic⟩ ∧ s.regs.get .r2 = .word 0x100c ∧
         (∀ r ∈ readsOf s.cs i, s.regs.get r ≠ .unwritten) ∧ (0x100c#64).toNat % 8 ≠ 0) := by decide
/-- The first byte after the bench's memory; an access past the top of the address space; an admitted atomic one. -/
theorem witness_InadmissibleAccessRaises :
    (let i := Instr.stxB .r1 .r6 16
     i.wellFormed = true ∧ accessOf i = some ⟨.r1, 16, 1, .write⟩ ∧ sample.regs.get .r1 = .word 0x1000 ∧
       (∀ r ∈ readsOf sample.cs i, sample.regs.get r ≠ .unwritten) ∧ (0x1010#64).toNat % 1 = 0 ∧
       memAdmit sample.plat 0x1010 1 .write = false) ∧
      (let i := Instr.fetchAdd64 .r1 .r6 16
       i.wellFormed = true ∧ accessOf i = some ⟨.r1, 16, 8, .atomic⟩ ∧ (0x1010#64).toNat % 8 = 0 ∧
         memAdmit sample.plat 0x1010 8 .atomic = false) ∧
      2 ^ 64 < (0xffffffffffffffff#64).toNat + 2 ∧ memAdmit sample.plat 0x1008 8 .atomic = true := by decide
/-- The lowest and the highest double word of the callee's stack; a stack that is cut off at address 0. -/
theorem witness_TheStackIsAdmitted :
    (callee.Inv ∧ callee.regs.r10 = .word 0x1fe00 ∧ callee.plat.stackAtomic = true ∧
      (0x1fe00#64).toNat - callee.plat.stackSize ≤ (0x1fc00#64).toNat ∧ (0x1fdf8#64).toNat + 8 ≤ (0x1fe00#64).toNat) ∧
      (let s := State.launch { bench with fp0 := 0x10, stackAtomic := false } [] []
       s.Inv ∧ s.regs.r10 = .word 0x10 ∧ (0x10#64).toNat - s.plat.stackSize ≤ (0#64).toNat ∧
         (8#64).toNat + 8 ≤ (0x10#64).toNat) :=
  ⟨⟨callee_inv, rfl, by decide, by decide, by decide⟩, ⟨by decide, by decide, by decide, by decide, by decide⟩, rfl,
    by decide, by decide⟩
/-- The admission predicate speaks of widths and kinds: 4 bytes admitted for reading and no byte of them; an atomic access
needs reading and writing too. -/
theorem test_admission_of_single_accesses :
    (let p := { bench with regions := [], accesses := [⟨0x8000, 4, .read⟩, ⟨0x8004, 4, .atomic⟩], stackAtomic := false }
     memAdmit p 0x8000 4 .read = true ∧ memAdmit p 0x8000 1 .read = false ∧ memAdmit p 0x8000 4 .write = false ∧
       memAdmit p 0x8004 4 .atomic = false ∧ memAdmit p 0x1fff8 8 .write = true ∧ memAdmit p 0x1fff8 8 .atomic = false) := by
  decide
/-- AtomicWithoutFetchResults, AtomicFetchAndExchangeResults, CompareAndExchangeResults: operands, alignment, admission, and
old values that do and do not equal R0. -/
theorem witness_AtomicResults :
    sample.readReg .r1 = some (0x1000, sample) ∧ sample.readReg .r7 = some (0xfffffffffffffff9, sample) ∧
      sample.readReg .r0 = some (0x55667788, sample) ∧ Reg.r7 ≠ .r10 ∧ (0x100c#64).toNat % 4 = 0 ∧
      memAdmit sample.plat 0x100c 4 .atomic = true ∧ (0x1008#64).toNat % 8 = 0 ∧ memAdmit sample.plat 0x1008 8 .atomic = true ∧
      sample.load 0x1000 4 = 0x55667788 ∧ sample.load 0x1008 8 ≠ 0x55667788 :=
  ⟨rfl, rfl, rfl, by decide, by decide, by decide, by decide, by decide, by decide, by decide⟩
theorem witness_Imm64IsBothHalves : Reg.r9 ≠ .r10 := by decide
theorem witness_PlatformAddressResults :
    sample.plat.mapByFd.lookup 5 = some 0x2000 ∧ sample.plat.mapByIdx.lookup 0 = some 0x2000 ∧
      sample.plat.varAddr.lookup 7 = some 0x4000 ∧ (sample.goto 2).plat.codeAddr.lookup ((sample.goto 2).pc, 3) = some 0x9000 ∧
      sample.plat.mapByFd.lookup 6 = none ∧ sample.plat.mapByIdx.lookup 1 = none ∧ sample.plat.varAddr.lookup 8 = none ∧
      sample.plat.codeAddr.lookup (sample.pc, 3) = none := by decide
theorem witness_MapValueAddressResults :
    (0x7fffffff#32).toNat < 2 ^ 31 ∧ sample.plat.mapVal.lookup 0x2000 = some 0x3000 ∧
      sample.plat.mapByFd.lookup 5 = some 0x2000 ∧ sample.plat.mapByIdx.lookup 0 = some 0x2000 ∧
      { bench with mapVal := [] }.mapVal.lookup 0x2000 = none ∧ sample.plat.mapByFd.lookup 6 = none ∧
      sample.plat.mapByIdx.lookup 1 = none := by decide

end Sys2Proof.Tests
end

/-! Sign extension, bit by bit (00_scope.md R12). -/

namespace Sys2Proof.ScopeProofs

open Sys2Proof.Machine

/-- Step 1 of R12. -/
theorem getLsbD_sext_of_lt_source {x y i : Nat} (v : BitVec x) (hy : i < y) (hx : i < x) :
    (sext y v).getLsbD i = v.getLsbD i := by
  rw [sext_eq, BitVec.getLsbD_signExtend]
  simp [hy, hx]

/-- Step 2 of R12. -/
theorem getLsbD_sext_of_source_le {x y i : Nat} (v : BitVec x) (hy : i < y) (hx : x ≤ i) :
    (sext y v).getLsbD i = v.getLsbD (x - 1) := by
  rw [sext_eq, BitVec.getLsbD_signExtend, ← BitVec.msb_eq_getLsbD_last]
  simp [hy, Nat.not_lt.mpr hx]

/-- Settles O33: the two steps of R12 are the two branches, at the source's width. -/
theorem signExtensionCopiesTheSignBit : Obligations.SignExtensionCopiesTheSignBit := by
  unfold Obligations.SignExtensionCopiesTheSignBit
  refine ⟨?bits, ?sixtyFour, ?example86⟩
  case bits =>
    intro x y v i _ _ hy
    split
    case isTrue hx => exact getLsbD_sext_of_lt_source v hy hx
    case isFalse hx => exact getLsbD_sext_of_source_le v hy (Nat.not_lt.mp hx)
  case sixtyFour => exact fun x v => (sext64_eq v).trans (sext_eq v).symm
  case example86 => decide

end Sys2Proof.ScopeProofs

/-! The encoding (30_encoding.md): the byte layout of a slot, the 64-bit immediate, the opcodes of the load and store
classes. -/

namespace Sys2Proof.EncodingProofs

open Sys2Proof.Machine

/-! ### The byte layout of a slot (R61, R62, R69) -/

/-- Four adjacent bytes of a value are one range of its bits. -/
theorem extractLsb'_append_four {w : Nat} (v : BitVec w) (start : Nat) :
    v.extractLsb' (start + 24) 8 ++ v.extractLsb' (start + 16) 8 ++ v.extractLsb' (start + 8) 8 ++ v.extractLsb' start 8 =
      v.extractLsb' start 32 := by
  rw [BitVec.extractLsb'_append_extractLsb'_eq_extractLsb' (start₁ := start + 16) (by omega),
    BitVec.extractLsb'_append_extractLsb'_eq_extractLsb' (start₁ := start + 8) (by omega),
    BitVec.extractLsb'_append_extractLsb'_eq_extractLsb' rfl]

/-- A range of bits inside a range of bits, as `dst_reg` and `src_reg` are inside byte 1. -/
theorem extractLsb'_extractLsb' {w start len start' len' : Nat} (v : BitVec w) (h : start' + len' ≤ len) :
    (v.extractLsb' start len).extractLsb' start' len' = v.extractLsb' (start + start') len' := by
  apply BitVec.eq_of_getLsbD_eq
  intro i hi
  have hlt : start' + i < len := by omega
  simp [hi, hlt, Nat.add_assoc]

theorem byteOf_append_two (v : BitVec 16) : byteOf v 1 ++ byteOf v 0 = v :=
  BitVec.extractLsb'_append_extractLsb'

theorem byteOf_append_four (v : BitVec 32) : byteOf v 3 ++ byteOf v 2 ++ byteOf v 1 ++ byteOf v 0 = v :=
  (extractLsb'_append_four v 0).trans BitVec.extractLsb'_eq_self

/-- No field is lost in the slot: the register fields share byte 1, and the bytes of `offset` and of `imm` are put
together again in the order they were laid out in. -/
theorem fieldsOf_slotOf (e : Endian) (f : Fields) : fieldsOf e (slotOf e f) = f := by
  cases e <;>
    simp only [fieldsOf, slotOf, byteOf_append_two, byteOf_append_four, BitVec.extractLsb'_append_eq_left,
      BitVec.extractLsb'_append_eq_right]

theorem ofNat_toNat_div_eq_extractLsb' {w : Nat} (v : BitVec w) (start len : Nat) :
    BitVec.ofNat len (v.toNat / 2 ^ start) = v.extractLsb' start len := by
  rw [← Nat.shiftRight_eq_div_pow]
  rfl

/-- The fields of a canonical word are ranges of its bits (R69). -/
theorem fieldsOfWord_toNat (w : BitVec 64) :
    fieldsOfWord w.toNat = ⟨w.extractLsb' 0 8, w.extractLsb' 8 4, w.extractLsb' 12 4, w.extractLsb' 16 16,
      w.extractLsb' 32 32⟩ := by
  simp only [fieldsOfWord, ofNat_toNat_div_eq_extractLsb']
  rfl

/-- The bytes of a word, the least significant first, are a little-endian slot with the fields of the word (R69). -/
theorem fieldsOf_bytes_eq_fieldsOfWord (w : BitVec 64) :
    fieldsOf .little ⟨w.extractLsb' 0 8, w.extractLsb' 8 8, w.extractLsb' 16 8, w.extractLsb' 24 8,
      w.extractLsb' 32 8, w.extractLsb' 40 8, w.extractLsb' 48 8, w.extractLsb' 56 8⟩ = fieldsOfWord w.toNat := by
  simp only [fieldsOfWord_toNat, fieldsOf, Fields.mk.injEq, true_and]
  refine ⟨?dst, ?src, ?offset, ?imm⟩
  case dst => exact extractLsb'_extractLsb' w (by decide)
  case src => exact extractLsb'_extractLsb' w (by decide)
  case offset => exact BitVec.extractLsb'_append_extractLsb'_eq_extractLsb' rfl
  case imm => exact extractLsb'_append_four w 32

/-- Settles O6: the layouts are `slotOf`'s own; `fieldsOf` undoes them and agrees with the canonical word. -/
theorem byteLayoutOfASlot : Obligations.ByteLayoutOfASlot := by
  unfold Obligations.ByteLayoutOfASlot
  exact ⟨fun _ => rfl, fun _ => rfl, fieldsOf_slotOf, fieldsOf_bytes_eq_fieldsOfWord, by decide, by decide⟩

/-! ### The 64-bit immediate (R67) -/

/-- Shifted by 32, `next_imm` leaves the low half to `imm`, so the OR of R67 joins the two. -/
theorem imm64_eq_shiftLeft_or (next imm : BitVec 32) :
    imm64 next imm = (next.setWidth 64 <<< 32) ||| imm.setWidth 64 :=
  (BitVec.setWidth_eq _).symm.trans BitVec.setWidth_append_eq_shiftLeft_setWidth_or

theorem exec_ldImm64 {d : Reg} (hd : d ≠ .r10) (imm next : BitVec 32) (s : State) :
    exec (.ldImm64 d imm next) s = .next (s.wrote d (imm64 next imm) 2) :=
  guardDst_eq hd

/-- Settles O57: the value written is `imm64`, the concatenation of the halves. -/
theorem imm64IsBothHalves : Obligations.Imm64IsBothHalves := by
  unfold Obligations.Imm64IsBothHalves
  intro s d k n hd
  exact ⟨imm64 n k, exec_ldImm64 hd k n s, imm64_eq_shiftLeft_or n k, BitVec.extractLsb'_append_eq_left,
    BitVec.extractLsb'_append_eq_right⟩

/-! ### Undefined opcodes (R79, R80) -/

/-- An opcode outside the map of R79 is undefined: every arm of the decoder but the last has its opcode in the map. -/
theorem decodeFields_of_not_mem {f : Fields} (next : Option Fields)
    (h : f.opcode.toNat ∉ definedOpcodes ++ legacyOpcodes) : decodeFields f next = .error .undefinedOpcode := by
  unfold decodeFields
  generalize f.opcode.toNat = n at h ⊢
  split
  case h_128 => rfl
  all_goals exact absurd (by decide) h

/-- In a class (opcode bits 2:0) of which the map has the opcodes `l`, an opcode outside `l` is undefined. -/
theorem decodeFields_of_not_mem_class {f : Fields} (next : Option Fields) {cls : Nat} {l : List Nat}
    (hl : (definedOpcodes ++ legacyOpcodes).filter (· % 8 = cls) = l) (hcls : f.opcode.toNat % 8 = cls)
    (h : f.opcode.toNat ∉ l) : decodeFields f next = .error .undefinedOpcode := by
  refine decodeFields_of_not_mem next fun hmem => h ?_
  rw [← hl]
  exact List.mem_filter.mpr ⟨hmem, decide_eq_true hcls⟩

/-! ### What a reader of the decoder accepts is the instruction it was given to make -/

/-- A sequence of two readers answers only if both do. -/
theorem bind_ok {α β : Type} {x : Except Reject α} {k : α → Except Reject β} {b : β} (h : (x >>= k) = .ok b) :
    ∃ a, x = .ok a ∧ k a = .ok b := by
  cases x with
  | error e => cases h
  | ok a => exact ⟨a, rfl, h⟩

theorem readLoad_ok {f : Fields} {mk : Reg → Reg → BitVec 16 → Instr} {i : Instr} (h : readLoad f mk = .ok i) :
    ∃ d r o, i = mk d r o := by
  obtain ⟨_, -, h⟩ := bind_ok h
  obtain ⟨d, -, h⟩ := bind_ok h
  obtain ⟨r, -, h⟩ := bind_ok h
  exact ⟨d, r, f.offset, (Except.ok.inj h).symm⟩

theorem readStoreK_ok {f : Fields} {mk : Reg → BitVec 16 → BitVec 32 → Instr} {i : Instr}
    (h : readStoreK f mk = .ok i) : ∃ d o k, i = mk d o k := by
  obtain ⟨_, -, h⟩ := bind_ok h
  obtain ⟨d, -, h⟩ := bind_ok h
  exact ⟨d, f.offset, f.imm, (Except.ok.inj h).symm⟩

theorem readStoreX_ok {f : Fields} {mk : Reg → Reg → BitVec 16 → Instr} {i : Instr} (h : readStoreX f mk = .ok i) :
    ∃ d r o, i = mk d r o := by
  obtain ⟨_, -, h⟩ := bind_ok h
  obtain ⟨d, -, h⟩ := bind_ok h
  obtain ⟨r, -, h⟩ := bind_ok h
  exact ⟨d, r, f.offset, (Except.ok.inj h).symm⟩

theorem readAtomic_ok {f : Fields} {fetch : Bool} {mk : Reg → Reg → BitVec 16 → Instr} {i : Instr}
    (h : readAtomic f (some (fetch, mk)) = .ok i) : ∃ d r o, i = mk d r o := by
  obtain ⟨d, -, h⟩ := bind_ok h
  cases fetch <;>
    obtain ⟨r, -, h⟩ := bind_ok h <;>
    exact ⟨d, r, f.offset, (Except.ok.inj h).symm⟩

/-! ### The loads of R75 and the immediate stores of R76 -/

/-- The rows of R75: the opcode of a load and the instruction it names. -/
inductive LoadOpcode : BitVec 8 → (Reg → Reg → BitVec 16 → Instr) → Prop where
  | ldxW : LoadOpcode 0x61#8 .ldxW
  | ldxH : LoadOpcode 0x69#8 .ldxH
  | ldxB : LoadOpcode 0x71#8 .ldxB
  | ldxDW : LoadOpcode 0x79#8 .ldxDW
  | ldxsW : LoadOpcode 0x81#8 .ldxsW
  | ldxsH : LoadOpcode 0x89#8 .ldxsH
  | ldxsB : LoadOpcode 0x91#8 .ldxsB

/-- The rows of R76: the opcode of an immediate store and the instruction it names. -/
inductive StoreKOpcode : BitVec 8 → (Reg → BitVec 16 → BitVec 32 → Instr) → Prop where
  | stW : StoreKOpcode 0x62#8 .stW
  | stH : StoreKOpcode 0x6a#8 .stH
  | stB : StoreKOpcode 0x72#8 .stB
  | stDW : StoreKOpcode 0x7a#8 .stDW

section
variable {op : BitVec 8} {f : Fields} {next : Option Fields} {i : Instr}

theorem LoadOpcode.decodeFields_eq {mk : Reg → Reg → BitVec 16 → Instr} (row : LoadOpcode op mk) (hop : f.opcode = op) :
    decodeFields f next = readLoad f mk := by
  obtain ⟨opcode, dst, src, offset, imm⟩ := f
  subst hop
  cases row <;> rfl

theorem LoadOpcode.names {mk : Reg → Reg → BitVec 16 → Instr} (row : LoadOpcode op mk)
    (hi : decodeFields f next = .ok i) (hop : f.opcode = op) : ∃ d r o, i = mk d r o :=
  readLoad_ok ((row.decodeFields_eq hop).symm.trans hi)

theorem LoadOpcode.accepts {mk : Reg → Reg → BitVec 16 → Instr} (row : LoadOpcode op mk) {d r : Reg} {o : BitVec 16}
    (hd : d ≠ .r10) : decodeFields ⟨op, d.toBits, r.toBits, o, 0#32⟩ next = .ok (mk d r o) :=
  (row.decodeFields_eq rfl).trans (readLoad_fields hd r o mk)

theorem StoreKOpcode.decodeFields_eq {mk : Reg → BitVec 16 → BitVec 32 → Instr} (row : StoreKOpcode op mk)
    (hop : f.opcode = op) : decodeFields f next = readStoreK f mk := by
  obtain ⟨opcode, dst, src, offset, imm⟩ := f
  subst hop
  cases row <;> rfl

theorem StoreKOpcode.names {mk : Reg → BitVec 16 → BitVec 32 → Instr} (row : StoreKOpcode op mk)
    (hi : decodeFields f next = .ok i) (hop : f.opcode = op) : ∃ d o k, i = mk d o k :=
  readStoreK_ok ((row.decodeFields_eq hop).symm.trans hi)

theorem StoreKOpcode.accepts {mk : Reg → BitVec 16 → BitVec 32 → Instr} (row : StoreKOpcode op mk) {d : Reg}
    {o : BitVec 16} {k : BitVec 32} : decodeFields ⟨op, d.toBits, 0#4, o, k⟩ next = .ok (mk d o k) :=
  (row.decodeFields_eq rfl).trans (readJumpK_fields op d o k mk)

end

/-- Settles O9: the map of R79 has no other opcode in either class, and each row is read by the reader of its format. -/
theorem loadAndStoreOpcodes : Obligations.LoadAndStoreOpcodes := by
  unfold Obligations.LoadAndStoreOpcodes
  refine ⟨fun f next => ⟨?ldx, ?st, fun i hi => ?names⟩, fun next d r o k => ⟨fun hd => ?loads, ?stores⟩⟩
  case ldx => exact decodeFields_of_not_mem_class next (by decide)
  case st => exact decodeFields_of_not_mem_class next (by decide)
  case names =>
    exact ⟨LoadOpcode.ldxW.names hi, LoadOpcode.ldxH.names hi, LoadOpcode.ldxB.names hi, LoadOpcode.ldxDW.names hi,
      LoadOpcode.ldxsW.names hi, LoadOpcode.ldxsH.names hi, LoadOpcode.ldxsB.names hi, StoreKOpcode.stW.names hi,
      StoreKOpcode.stH.names hi, StoreKOpcode.stB.names hi, StoreKOpcode.stDW.names hi⟩
  case loads =>
    exact ⟨LoadOpcode.ldxW.accepts hd, LoadOpcode.ldxH.accepts hd, LoadOpcode.ldxB.accepts hd,
      LoadOpcode.ldxDW.accepts hd, LoadOpcode.ldxsW.accepts hd, LoadOpcode.ldxsH.accepts hd, LoadOpcode.ldxsB.accepts hd⟩
  case stores =>
    exact ⟨StoreKOpcode.stW.accepts, StoreKOpcode.stH.accepts, StoreKOpcode.stB.accepts, StoreKOpcode.stDW.accepts⟩

/-! ### The register stores and the atomic operations of R77 -/

/-- The rows of R77 in mode `BPF_MEM`: the opcode of a register store and the instruction it names. -/
inductive StoreXOpcode : BitVec 8 → (Reg → Reg → BitVec 16 → Instr) → Prop where
  | stxW : StoreXOpcode 0x63#8 .stxW
  | stxH : StoreXOpcode 0x6b#8 .stxH
  | stxB : StoreXOpcode 0x73#8 .stxB
  | stxDW : StoreXOpcode 0x7b#8 .stxDW

/-- The opcodes of R77 in mode `BPF_ATOMIC`, with the model's table of the operations that `imm` selects. -/
inductive AtomicOpcode : BitVec 8 → (BitVec 32 → Option (Bool × (Reg → Reg → BitVec 16 → Instr))) → Prop where
  | w : AtomicOpcode 0xc3#8 atomicOf32
  | dw : AtomicOpcode 0xdb#8 atomicOf64

section
variable {op : BitVec 8} {f : Fields} {next : Option Fields} {i : Instr} {mk : Reg → Reg → BitVec 16 → Instr}

theorem StoreXOpcode.decodeFields_eq (row : StoreXOpcode op mk) (hop : f.opcode = op) :
    decodeFields f next = readStoreX f mk := by
  obtain ⟨opcode, dst, src, offset, imm⟩ := f
  subst hop
  cases row <;> rfl

theorem StoreXOpcode.names (row : StoreXOpcode op mk) (hi : decodeFields f next = .ok i) (hop : f.opcode = op) :
    ∃ d r o, i = mk d r o :=
  readStoreX_ok ((row.decodeFields_eq hop).symm.trans hi)

theorem StoreXOpcode.accepts (row : StoreXOpcode op mk) {d r : Reg} {o : BitVec 16} :
    decodeFields ⟨op, d.toBits, r.toBits, o, 0#32⟩ next = .ok (mk d r o) :=
  (row.decodeFields_eq rfl).trans (readJumpX_fields op d r o mk)

variable {sel : BitVec 32 → Option (Bool × (Reg → Reg → BitVec 16 → Instr))} {fetch : Bool} {k : BitVec 32}

theorem AtomicOpcode.decodeFields_eq (row : AtomicOpcode op sel) (hop : f.opcode = op) :
    decodeFields f next = readAtomic f (sel f.imm) := by
  obtain ⟨opcode, dst, src, offset, imm⟩ := f
  subst hop
  cases row <;> rfl

/-- Both tables have the same ten selectors. -/
theorem AtomicOpcode.select_eq_none (row : AtomicOpcode op sel)
    (hk : k.toNat ∉ [0x00, 0x01, 0x40, 0x41, 0x50, 0x51, 0xa0, 0xa1, 0xe1, 0xf1]) : sel k = none := by
  simp only [List.mem_cons, List.not_mem_nil, or_false, not_or] at hk
  cases row
  case w => simp [atomicOf32, hk]
  case dw => simp [atomicOf64, hk]

theorem AtomicOpcode.rejects (row : AtomicOpcode op sel) (hop : f.opcode = op)
    (hk : f.imm.toNat ∉ [0x00, 0x01, 0x40, 0x41, 0x50, 0x51, 0xa0, 0xa1, 0xe1, 0xf1]) :
    decodeFields f next = .error .undefinedSelector := by
  rw [row.decodeFields_eq hop, row.select_eq_none hk]
  rfl

theorem AtomicOpcode.names (row : AtomicOpcode op sel) (hi : decodeFields f next = .ok i) (hop : f.opcode = op)
    (hsel : sel k = some (fetch, mk)) (hk : f.imm = k) : ∃ d r o, i = mk d r o := by
  rw [row.decodeFields_eq hop, hk, hsel] at hi
  exact readAtomic_ok hi

theorem AtomicOpcode.accepts (row : AtomicOpcode op sel) {d r : Reg} {o : BitVec 16}
    (hr : fetch = true → r ≠ .r10) (hsel : sel k = some (fetch, mk)) :
    decodeFields ⟨op, d.toBits, r.toBits, o, k⟩ next = .ok (mk d r o) := by
  rw [row.decodeFields_eq rfl, hsel]
  exact readAtomic_fields hr

theorem AtomicOpcode.accepts_noFetch (row : AtomicOpcode op sel) {d r : Reg} {o : BitVec 16}
    (hsel : sel k = some (false, mk)) : decodeFields ⟨op, d.toBits, r.toBits, o, k⟩ next = .ok (mk d r o) :=
  row.accepts (absurd · Bool.false_ne_true) hsel

theorem AtomicOpcode.accepts_fetch (row : AtomicOpcode op sel) {d r : Reg} {o : BitVec 16} (hr : r ≠ .r10)
    (hsel : sel k = some (true, mk)) : decodeFields ⟨op, d.toBits, r.toBits, o, k⟩ next = .ok (mk d r o) :=
  row.accepts (fun _ => hr) hsel

end

/-- Settles O10: the map of R79 has no other opcode in the class, the register stores have one reader, and the two atomic
opcodes read the entry of their table that `imm` selects. -/
theorem atomicAndRegisterStoreOpcodes : Obligations.AtomicAndRegisterStoreOpcodes := by
  unfold Obligations.AtomicAndRegisterStoreOpcodes
  refine ⟨fun f next => ⟨?stx, ?selector, fun i hi => ?names⟩, fun next d r o => ?accepts⟩
  case stx => exact decodeFields_of_not_mem_class next (by decide)
  case selector => exact fun hop hk => hop.elim (AtomicOpcode.w.rejects · hk) (AtomicOpcode.dw.rejects · hk)
  case names =>
    refine ⟨StoreXOpcode.stxW.names hi, StoreXOpcode.stxH.names hi, StoreXOpcode.stxB.names hi,
      StoreXOpcode.stxDW.names hi, fun hop => ?w, fun hop => ?dw⟩
    case w =>
      have named {k fetch mk} := AtomicOpcode.w.names (k := k) (fetch := fetch) (mk := mk) hi hop
      exact ⟨named rfl, named rfl, named rfl, named rfl, named rfl,
        named rfl, named rfl, named rfl, named rfl, named rfl⟩
    case dw =>
      have named {k fetch mk} := AtomicOpcode.dw.names (k := k) (fetch := fetch) (mk := mk) hi hop
      exact ⟨named rfl, named rfl, named rfl, named rfl, named rfl,
        named rfl, named rfl, named rfl, named rfl, named rfl⟩
  case accepts =>
    have plain {op sel k mk} (row : AtomicOpcode op sel) (hsel : sel k = some (false, mk)) :=
      row.accepts_noFetch (next := next) (d := d) (r := r) (o := o) hsel
    have fetching (hr : r ≠ .r10) {op sel k mk} (row : AtomicOpcode op sel) (hsel : sel k = some (true, mk)) :=
      row.accepts_fetch (next := next) (d := d) (o := o) hr hsel
    exact ⟨StoreXOpcode.stxW.accepts, StoreXOpcode.stxH.accepts, StoreXOpcode.stxB.accepts, StoreXOpcode.stxDW.accepts,
      plain .w rfl, plain .w rfl, plain .w rfl, plain .w rfl, plain .w rfl,
      plain .dw rfl, plain .dw rfl, plain .dw rfl, plain .dw rfl, plain .dw rfl,
      fun hr => ⟨fetching hr .w rfl, fetching hr .w rfl, fetching hr .w rfl, fetching hr .w rfl, fetching hr .w rfl,
        fetching hr .dw rfl, fetching hr .dw rfl, fetching hr .dw rfl, fetching hr .dw rfl, fetching hr .dw rfl⟩⟩

end Sys2Proof.EncodingProofs

/-! The arithmetic operations (40_alu.md): the amount a shift uses. -/

namespace Sys2Proof.AluProofs

open Sys2Proof.Machine

/-! ### Shift amounts (R102) -/

section
variable {w k : Nat} (hw : w = 2 ^ k)
include hw

/-- The mask `W - 1` of a width that is a power of two keeps the remainder by the width. -/
theorem shiftAmount_eq_mod (b : BitVec w) : shiftAmount b = b.toNat % w := by
  subst hw
  have mask_fits : 2 ^ k - 1 < 2 ^ 2 ^ k := (Nat.sub_le _ _).trans_lt Nat.lt_two_pow_self
  calc (b &&& BitVec.ofNat (2 ^ k) (2 ^ k - 1)).toNat
      = b.toNat &&& (2 ^ k - 1) := by rw [BitVec.toNat_and, BitVec.toNat_ofNat, Nat.mod_eq_of_lt mask_fits]
    _ = b.toNat % 2 ^ k := Nat.and_two_pow_sub_one_eq_mod b.toNat k

/-- The three shift operations use the one amount. -/
theorem aluShifts_eq_mod (a b : BitVec w) :
    aluLsh a b = a <<< (b.toNat % w) ∧ aluRsh a b = a >>> (b.toNat % w) ∧ aluArsh a b = a.sshiftRight (b.toNat % w) := by
  rw [← shiftAmount_eq_mod hw b]
  exact ⟨rfl, rfl, rfl⟩

end

/-- Settles O28: both widths are powers of two, so the mask takes the remainder by the width, and all three operations
shift by it. -/
theorem shiftAmountsAreMasked : Obligations.ShiftAmountsAreMasked := by
  unfold Obligations.ShiftAmountsAreMasked
  have pow64 : 64 = 2 ^ 6 := rfl
  have pow32 : 32 = 2 ^ 5 := rfl
  refine ⟨fun b => ⟨rfl, shiftAmount_eq_mod pow64 b⟩, fun b => ⟨rfl, shiftAmount_eq_mod pow32 b⟩,
    aluShifts_eq_mod pow64, aluShifts_eq_mod pow32, ?boundaries⟩
  case boundaries => decide

end Sys2Proof.AluProofs

/-! The 64-bit immediate instructions and the legacy opcodes (45_imm64_legacy.md): the opcodes of class `BPF_LD` outside
the tables. -/

namespace Sys2Proof.Imm64LegacyProofs

open Sys2Proof.Machine

/-! ### A rejected slot ends the step (R80, R88) -/

/-- Byte 0 of a slot is the opcode in both layouts (R61, R62). -/
@[simp] theorem fieldsOf_opcode (e : Endian) (a : Slot) : (fieldsOf e a).opcode = a.b0 := by
  cases e <;> rfl

section
variable {s : State} {a : Slot} {r : Reject}

theorem fetch_of_decode_error (hslot : slotAt s.prog s.pc = some a)
    (hdec : decode s.plat.endian a (slotAt s.prog (s.pc + 1)) = .error r) :
    fetch s = .error (faultOfReject s.pc r) := by
  simp only [fetch, hslot, hdec]

theorem step_of_decode_error (hrun : s.st = .running) (hslot : slotAt s.prog s.pc = some a)
    (hdec : decode s.plat.endian a (slotAt s.prog (s.pc + 1)) = .error r) :
    step s = .fault (faultOfReject s.pc r) := by
  simp only [step, hrun, fetch_of_decode_error hslot hdec, raise]

end

/-! ### Class `BPF_LD` (R232) -/

/-- The map of R79 has nine opcodes with bits 2:0 zero: 0x18 and the legacy ones. -/
theorem decode_classLd {a : Slot} (e : Endian) (next : Option Slot) (hcls : a.b0.toNat % 8 = 0) (hwide : a.b0 ≠ 0x18#8)
    (hlegacy : a.b0.toNat ∉ legacyOpcodes) : decode e a next = .error .undefinedOpcode := by
  have classLd : (definedOpcodes ++ legacyOpcodes).filter (· % 8 = 0) = 0x18 :: legacyOpcodes := by decide
  have outside : a.b0.toNat ∉ 0x18 :: legacyOpcodes :=
    List.not_mem_cons_of_ne_of_not_mem (fun h => hwide (BitVec.eq_of_toNat_eq h)) hlegacy
  rw [← fieldsOf_opcode e a] at hcls outside
  exact EncodingProofs.decodeFields_of_not_mem_class _ classLd hcls outside

/-- Settles O11: the decoder rejects the slot as undefined in either byte order, and the step raises that rejection's
fault. -/
theorem classLdOpcodesOutsideTheTableAreIllegal : Obligations.ClassLdOpcodesOutsideTheTableAreIllegal := by
  unfold Obligations.ClassLdOpcodesOutsideTheTableAreIllegal
  intro s a hrun hslot hcls hwide hlegacy
  exact step_of_decode_error hrun hslot (decode_classLd _ _ hcls hwide hlegacy)

end Sys2Proof.Imm64LegacyProofs

/-! The forms of instructions: the 172 constructors are about twenty operations of the model with their operands. A fact
about every instruction is a case split on these forms. -/

namespace Sys2Proof.FormProofs

open Sys2Proof.Machine

/-! ### The forms -/

/-- One shared operation of the model with its operands. -/
inductive Form where
  | aluK (w : Nat) (f : BitVec w → BitVec w → BitVec w) (d : Reg) (imm : BitVec 32)
  | aluX (w : Nat) (f : BitVec w → BitVec w → BitVec w) (d r : Reg)
  | unary (w : Nat) (f : Endian → BitVec w → BitVec w) (d : Reg)
  | movK (w : Nat) (d : Reg) (imm : BitVec 32)
  | movX (w : Nat) (d r : Reg)
  | movsx (n w : Nat) (d r : Reg)
  | jump (displacement : Int)
  | jumpK (w : Nat) (c : BitVec w → BitVec w → Bool) (d : Reg) (off : BitVec 16) (imm : BitVec 32)
  | jumpX (w : Nat) (c : BitVec w → BitVec w → Bool) (d r : Reg) (off : BitVec 16)
  | helper (known : Platform → List (BitVec 32)) (id : BitVec 32) (key : HelperKey)
  | call (imm : BitVec 32)
  | exit
  | load (w : Nat) (ext : BitVec w → Word) (d r : Reg) (off : BitVec 16)
  | storeK (w : Nat) (d : Reg) (off : BitVec 16) (imm : BitVec 32)
  | storeX (w : Nat) (d r : Reg) (off : BitVec 16)
  | atomic (w : Nat) (f : BitVec w → BitVec w → BitVec w) (d r : Reg) (off : BitVec 16)
  | fetch (w : Nat) (f : BitVec w → BitVec w → BitVec w) (d r : Reg) (off : BitVec 16)
  | cmpxchg (w : Nat) (d r : Reg) (off : BitVec 16)
  | imm64 (d : Reg) (imm next : BitVec 32)
  | addr (d : Reg) (answer : Platform → Int → Option Word) (l : Lookup)
  | mapValue (d : Reg) (answer : Platform → Option Word) (l : Lookup) (next : BitVec 32)
  | legacy (opcode : BitVec 8)

namespace Form

/-- The meaning of a form: the model's operation. -/
def run : Form → State → Result
  | aluK w f d imm, s => Machine.aluK w f d imm s
  | aluX w f d r, s => Machine.aluX w f d r s
  | unary w f d, s => aluUnary w (f s.plat.endian) d s
  | movK w d imm, s => Machine.movK w d imm s
  | movX w d r, s => Machine.movX w d r s
  | movsx n w d r, s => Machine.movsx n w d r s
  | jump k, s => jumpAlways k s
  | jumpK w c d off imm, s => Machine.jumpK w c d off imm s
  | jumpX w c d r off, s => Machine.jumpX w c d r off s
  | helper known id key, s => helperCall (known s.plat) id key s
  | call imm, s => localCall imm.toInt s
  | exit, s => exitProgram s
  | load w ext d r off, s => loadX w ext d r off s
  | storeK w d off imm, s => Machine.storeK w d off imm s
  | storeX w d r off, s => Machine.storeX w d r off s
  | atomic w f d r off, s => atomicSimple w f d r off s
  | fetch w f d r off, s => atomicFetch w f d r off s
  | cmpxchg w d r off, s => atomicCmpxchg w d r off s
  | imm64 d imm next, s => loadImm64 d imm next s
  | addr d answer l, s => loadAddr d (answer s.plat s.pc) l s
  | mapValue d answer l next, s => loadMapValue d (answer s.plat) l next s
  | legacy opcode, _ => legacyAccess opcode

/-- The registers a form reads, in order. -/
def reads (cs : List Frame) : Form → List Reg
  | aluK _ _ d _ | unary _ _ d | jumpK _ _ d _ _ | storeK _ d _ _ => [d]
  | aluX _ _ d r | jumpX _ _ d r _ | storeX _ d r _ | atomic _ _ d r _ | fetch _ _ d r _ => [d, r]
  | movX _ _ r | movsx _ _ _ r | load _ _ _ r _ => [r]
  | cmpxchg _ d r _ => [d, r, .r0]
  | exit => if cs.isEmpty then [.r0] else []
  | movK _ _ _ | jump _ | helper _ _ _ | call _ | imm64 _ _ _ | addr _ _ _ | mapValue _ _ _ _ | legacy _ => []

/-- The registers a form may write. -/
def writes : Form → List Reg
  | aluK _ _ d _ | aluX _ _ d _ | unary _ _ d | movK _ d _ | movX _ d _ | movsx _ _ d _ | load _ _ d _ _
    | imm64 d _ _ | addr d _ _ | mapValue d _ _ _ => [d]
  | fetch _ _ _ r _ => [r]
  | cmpxchg _ _ _ _ => [.r0]
  | helper _ _ _ => [.r0, .r1, .r2, .r3, .r4, .r5]
  | call _ => [.r6, .r7, .r8, .r9, .r10]
  | exit => [.r1, .r2, .r3, .r4, .r5, .r6, .r7, .r8, .r9, .r10]
  | jump _ | jumpK _ _ _ _ _ | jumpX _ _ _ _ _ | storeK _ _ _ _ | storeX _ _ _ _ | atomic _ _ _ _ _ | legacy _ => []

/-- The memory access of a form. -/
def access : Form → Option Access
  | load w _ _ r off => some ⟨r, off, w / 8, .read⟩
  | storeK w d off _ | storeX w d _ off => some ⟨d, off, w / 8, .write⟩
  | atomic w _ d _ off | fetch w _ d _ off | cmpxchg w d _ off => some ⟨d, off, w / 8, .atomic⟩
  | _ => none

/-- Whether some encoding stands for the instruction: it does not write R10, and bit 31 of `next_imm` is clear. -/
def wellFormed : Form → Bool
  | aluK _ _ d _ | aluX _ _ d _ | unary _ _ d | movK _ d _ | movX _ d _ | movsx _ _ d _ | load _ _ d _ _
    | imm64 d _ _ | addr d _ _ => d != .r10
  | fetch _ _ _ r _ => r != .r10
  | mapValue d _ _ next => d != .r10 && !next.msb
  | _ => true

def isHelper : Form → Bool
  | helper _ _ _ => true
  | _ => false

/-- Calls of every kind and exit: what is no plain instruction. -/
def isControl : Form → Bool
  | helper _ _ _ | call _ | exit => true
  | _ => false

end Form

/-! ### Every instruction has a form -/

/-- The form has the instruction's meaning, and what Safety.lean says of the instruction. -/
structure HasForm (i : Instr) (φ : Form) : Prop where
  exec_eq : ∀ s, exec i s = φ.run s
  reads_eq : ∀ cs, readsOf cs i = φ.reads cs
  writes_eq : writesOf i = φ.writes
  access_eq : accessOf i = φ.access
  wellFormed_eq : i.wellFormed = φ.wellFormed
  isHelper_eq : isHelperCall i = φ.isHelper
  eq_callLocal : ∀ k, φ = .call k → i = .callLocal k
  eq_exit : φ = .exit → i = .exit

theorem exists_form (i : Instr) : ∃ φ, HasForm i φ := by
  cases i
  case add64K | sub64K | mul64K | div64K | sdiv64K | or64K | and64K | lsh64K | rsh64K | mod64K | smod64K | xor64K
      | arsh64K | add32K | sub32K | mul32K | div32K | sdiv32K | or32K | and32K | lsh32K | rsh32K | mod32K | smod32K
      | xor32K | arsh32K =>
    exact ⟨.aluK _ _ _ _, fun _ => rfl, fun _ => rfl, rfl, rfl, rfl, rfl, nofun, nofun⟩
  case add64X | sub64X | mul64X | div64X | sdiv64X | or64X | and64X | lsh64X | rsh64X | mod64X | smod64X | xor64X
      | arsh64X | add32X | sub32X | mul32X | div32X | sdiv32X | or32X | and32X | lsh32X | rsh32X | mod32X | smod32X
      | xor32X | arsh32X =>
    exact ⟨.aluX _ _ _ _, fun _ => rfl, fun _ => rfl, rfl, rfl, rfl, rfl, nofun, nofun⟩
  case neg64 | neg32 | bswap16 | bswap32 | bswap64 =>
    exact ⟨.unary _ (fun _ => _) _, fun _ => rfl, fun _ => rfl, rfl, rfl, rfl, rfl, nofun, nofun⟩
  case toLe16 | toLe32 | toLe64 =>
    exact ⟨.unary _ (fun e => htole e _) _, fun _ => rfl, fun _ => rfl, rfl, rfl, rfl, rfl, nofun, nofun⟩
  case toBe16 | toBe32 | toBe64 =>
    exact ⟨.unary _ (fun e => htobe e _) _, fun _ => rfl, fun _ => rfl, rfl, rfl, rfl, rfl, nofun, nofun⟩
  case mov64K | mov32K => exact ⟨.movK _ _ _, fun _ => rfl, fun _ => rfl, rfl, rfl, rfl, rfl, nofun, nofun⟩
  case mov64X | mov32X => exact ⟨.movX _ _ _, fun _ => rfl, fun _ => rfl, rfl, rfl, rfl, rfl, nofun, nofun⟩
  case movsx8to64 | movsx16to64 | movsx32to64 | movsx8to32 | movsx16to32 =>
    exact ⟨.movsx _ _ _ _, fun _ => rfl, fun _ => rfl, rfl, rfl, rfl, rfl, nofun, nofun⟩
  case ja | ja32 => exact ⟨.jump _, fun _ => rfl, fun _ => rfl, rfl, rfl, rfl, rfl, nofun, nofun⟩
  case jeq64K | jgt64K | jge64K | jset64K | jne64K | jsgt64K | jsge64K | jlt64K | jle64K | jslt64K | jsle64K | jeq32K
      | jgt32K | jge32K | jset32K | jne32K | jsgt32K | jsge32K | jlt32K | jle32K | jslt32K | jsle32K =>
    exact ⟨.jumpK _ _ _ _ _, fun _ => rfl, fun _ => rfl, rfl, rfl, rfl, rfl, nofun, nofun⟩
  case jeq64X | jgt64X | jge64X | jset64X | jne64X | jsgt64X | jsge64X | jlt64X | jle64X | jslt64X | jsle64X | jeq32X
      | jgt32X | jge32X | jset32X | jne32X | jsgt32X | jsge32X | jlt32X | jle32X | jslt32X | jsle32X =>
    exact ⟨.jumpX _ _ _ _ _, fun _ => rfl, fun _ => rfl, rfl, rfl, rfl, rfl, nofun, nofun⟩
  case callHelper =>
    exact ⟨.helper (·.helpersByAddr) _ (.byAddr _), fun _ => rfl, fun _ => rfl, rfl, rfl, rfl, rfl, nofun, nofun⟩
  case callBtf =>
    exact ⟨.helper (·.helpersByBtf) _ (.byBtf _), fun _ => rfl, fun _ => rfl, rfl, rfl, rfl, rfl, nofun, nofun⟩
  case callLocal => exact ⟨.call _, fun _ => rfl, fun _ => rfl, rfl, rfl, rfl, rfl, fun _ h => by cases h; rfl, nofun⟩
  case exit => exact ⟨.exit, fun _ => rfl, fun _ => rfl, rfl, rfl, rfl, rfl, nofun, fun _ => rfl⟩
  case ldxW | ldxH | ldxB | ldxDW | ldxsW | ldxsH | ldxsB =>
    exact ⟨.load _ _ _ _ _, fun _ => rfl, fun _ => rfl, rfl, rfl, rfl, rfl, nofun, nofun⟩
  case stW | stH | stB | stDW =>
    exact ⟨.storeK _ _ _ _, fun _ => rfl, fun _ => rfl, rfl, rfl, rfl, rfl, nofun, nofun⟩
  case stxW | stxH | stxB | stxDW =>
    exact ⟨.storeX _ _ _ _, fun _ => rfl, fun _ => rfl, rfl, rfl, rfl, rfl, nofun, nofun⟩
  case atomicAdd32 | atomicOr32 | atomicAnd32 | atomicXor32 | atomicAdd64 | atomicOr64 | atomicAnd64 | atomicXor64 =>
    exact ⟨.atomic _ _ _ _ _, fun _ => rfl, fun _ => rfl, rfl, rfl, rfl, rfl, nofun, nofun⟩
  case fetchAdd32 | fetchOr32 | fetchAnd32 | fetchXor32 | xchg32 | fetchAdd64 | fetchOr64 | fetchAnd64 | fetchXor64
      | xchg64 =>
    exact ⟨.fetch _ _ _ _ _, fun _ => rfl, fun _ => rfl, rfl, rfl, rfl, rfl, nofun, nofun⟩
  case cmpxchg32 | cmpxchg64 => exact ⟨.cmpxchg _ _ _ _, fun _ => rfl, fun _ => rfl, rfl, rfl, rfl, rfl, nofun, nofun⟩
  case ldImm64 => exact ⟨.imm64 _ _ _, fun _ => rfl, fun _ => rfl, rfl, rfl, rfl, rfl, nofun, nofun⟩
  case ldMapFd =>
    exact ⟨.addr _ (fun p _ => p.mapByFd.lookup _) _, fun _ => rfl, fun _ => rfl, rfl, rfl, rfl, rfl, nofun, nofun⟩
  case ldMapIdx =>
    exact ⟨.addr _ (fun p _ => p.mapByIdx.lookup _) _, fun _ => rfl, fun _ => rfl, rfl, rfl, rfl, rfl, nofun, nofun⟩
  case ldVarAddr =>
    exact ⟨.addr _ (fun p _ => p.varAddr.lookup _) _, fun _ => rfl, fun _ => rfl, rfl, rfl, rfl, rfl, nofun, nofun⟩
  case ldCodeAddr _ k =>
    exact ⟨.addr _ (fun p pc => p.codeAddr.lookup (pc, k.toInt)) _, fun _ => rfl, fun _ => rfl, rfl, rfl, rfl, rfl, nofun,
      nofun⟩
  case ldMapFdVal =>
    exact ⟨.mapValue _ (fun p => p.mapByFd.lookup _) _ _, fun _ => rfl, fun _ => rfl, rfl, rfl, rfl, rfl, nofun, nofun⟩
  case ldMapIdxVal =>
    exact ⟨.mapValue _ (fun p => p.mapByIdx.lookup _) _ _, fun _ => rfl, fun _ => rfl, rfl, rfl, rfl, rfl, nofun, nofun⟩
  case ldAbsW | ldAbsH | ldAbsB | ldAbsDW | ldIndW | ldIndH | ldIndB | ldIndDW =>
    exact ⟨.legacy _, fun _ => rfl, fun _ => rfl, rfl, rfl, rfl, rfl, nofun, nofun⟩

end Sys2Proof.FormProofs

/-! What an instruction that completes has done to the state; one that faults has changed nothing (60_exceptions.md
R241). -/

namespace Sys2Proof.FormProofs

open Sys2Proof.Machine

/-! ### Reading registers -/

/-- The state after some free values have been drawn (10_state.md R23). -/
def drawn (s : State) (k : Nat) : State := { s with draws := s.draws + k }

theorem readReg_drawn {s s1 : State} {r : Reg} {v : Word} (h : s.readReg r = some (v, s1)) : ∃ k, s1 = drawn s k := by
  rcases State.readReg_state h with rfl | rfl
  · exact ⟨0, rfl⟩
  · exact ⟨1, rfl⟩

theorem drawn_drawn (s : State) (j k : Nat) : drawn (drawn s j) k = drawn s (j + k) := by
  simp [drawn, Nat.add_assoc]

theorem readReg_readReg_drawn {s s1 s2 : State} {d r : Reg} {a b : Word} (hd : s.readReg d = some (a, s1))
    (hr : s1.readReg r = some (b, s2)) : ∃ k, s2 = drawn s k := by
  obtain ⟨j, rfl⟩ := readReg_drawn hd
  obtain ⟨k, rfl⟩ := readReg_drawn hr
  exact ⟨j + k, drawn_drawn s j k⟩

/-! ### Instructions other than calls and exit -/

/-- The registers are as they were, or one of `W` other than R10 has taken a word. -/
def RegsAfter (W : List Reg) (r r' : RegFile) : Prop :=
  r' = r ∨ ∃ d ∈ W, d ≠ .r10 ∧ ∃ v, r' = r.set d (.word v)

/-- Memory is as it was, or a number has been stored by an access that may write and was admitted. -/
def MemAfter (A : Option Access) (s : State) (m : Memory) : Prop :=
  m = s.mem ∨ ∃ a b s1 v, A = some a ∧ a.kind ≠ .read ∧ s.readReg a.base = some (b, s1) ∧
    memAdmit s.plat (effectiveAddress b a.off) a.n a.kind = true ∧
    m = memWrite s.plat.endian s.mem (effectiveAddress b a.off) a.n v

/-- The instruction has changed nothing but one register of `W`, the bytes of its access, `pc` and the draw counter. -/
structure PlainStep (W : List Reg) (A : Option Access) (s t : State) : Prop where
  rest : ∃ k, t = { s with regs := t.regs, mem := t.mem, pc := t.pc, draws := s.draws + k }
  regs : RegsAfter W s.regs t.regs
  mem : MemAfter A s t.mem

theorem Form.run_next {φ : Form} {s t : State} (hφ : φ.isControl = false) (h : φ.run s = .next t) :
    PlainStep φ.writes φ.access s t := by
  cases φ
  case aluK =>
    obtain ⟨hd, a, s1, hr, rfl⟩ := aluK_next h
    obtain ⟨k, rfl⟩ := readReg_drawn hr
    exact ⟨⟨k, rfl⟩, .inr ⟨_, .head _, hd, _, rfl⟩, .inl rfl⟩
  case aluX =>
    obtain ⟨hd, a, b, s1, s2, hr, hr2, rfl⟩ := aluX_next h
    obtain ⟨k, rfl⟩ := readReg_readReg_drawn hr hr2
    exact ⟨⟨k, rfl⟩, .inr ⟨_, .head _, hd, _, rfl⟩, .inl rfl⟩
  case unary =>
    obtain ⟨hd, a, s1, hr, rfl⟩ := aluUnary_next h
    obtain ⟨k, rfl⟩ := readReg_drawn hr
    exact ⟨⟨k, rfl⟩, .inr ⟨_, .head _, hd, _, rfl⟩, .inl rfl⟩
  case movK =>
    obtain ⟨hd, rfl⟩ := movK_next h
    exact ⟨⟨0, rfl⟩, .inr ⟨_, .head _, hd, _, rfl⟩, .inl rfl⟩
  case movX =>
    obtain ⟨hd, b, s1, hr, rfl⟩ := movX_next h
    obtain ⟨k, rfl⟩ := readReg_drawn hr
    exact ⟨⟨k, rfl⟩, .inr ⟨_, .head _, hd, _, rfl⟩, .inl rfl⟩
  case movsx =>
    obtain ⟨hd, b, s1, hr, rfl⟩ := movsx_next h
    obtain ⟨k, rfl⟩ := readReg_drawn hr
    exact ⟨⟨k, rfl⟩, .inr ⟨_, .head _, hd, _, rfl⟩, .inl rfl⟩
  case jump =>
    cases h
    exact ⟨⟨0, rfl⟩, .inl rfl, .inl rfl⟩
  case jumpK =>
    obtain ⟨a, s1, hr, rfl⟩ := jumpK_next h
    obtain ⟨k, rfl⟩ := readReg_drawn hr
    exact ⟨⟨k, rfl⟩, .inl rfl, .inl rfl⟩
  case jumpX =>
    obtain ⟨a, b, s1, s2, hr, hr2, rfl⟩ := jumpX_next h
    obtain ⟨k, rfl⟩ := readReg_readReg_drawn hr hr2
    exact ⟨⟨k, rfl⟩, .inl rfl, .inl rfl⟩
  case load =>
    obtain ⟨hd, b, s1, hr, -, -, rfl⟩ := loadX_next h
    obtain ⟨k, rfl⟩ := readReg_drawn hr
    exact ⟨⟨k, rfl⟩, .inr ⟨_, .head _, hd, _, rfl⟩, .inl rfl⟩
  case storeK =>
    obtain ⟨a, s1, hr, h⟩ := storeK_next h
    obtain ⟨-, hm, rfl⟩ := storeAt_next h
    obtain ⟨k, rfl⟩ := readReg_drawn hr
    exact ⟨⟨k, rfl⟩, .inl rfl, .inr ⟨_, _, _, _, rfl, nofun, hr, hm, rfl⟩⟩
  case storeX =>
    obtain ⟨a, b, s1, s2, hr, hr2, h⟩ := storeX_next h
    obtain ⟨-, hm, rfl⟩ := storeAt_next h
    obtain ⟨k, rfl⟩ := readReg_readReg_drawn hr hr2
    exact ⟨⟨k, rfl⟩, .inl rfl, .inr ⟨_, _, _, _, rfl, nofun, hr, hm, rfl⟩⟩
  case atomic =>
    obtain ⟨a, b, s1, s2, hr, hr2, -, hm, rfl⟩ := atomicSimple_next h
    obtain ⟨k, rfl⟩ := readReg_readReg_drawn hr hr2
    exact ⟨⟨k, rfl⟩, .inl rfl, .inr ⟨_, _, _, _, rfl, nofun, hr, hm, rfl⟩⟩
  case fetch =>
    obtain ⟨hd, a, b, s1, s2, hr, hr2, -, hm, rfl⟩ := atomicFetch_next h
    obtain ⟨k, rfl⟩ := readReg_readReg_drawn hr hr2
    exact ⟨⟨k, rfl⟩, .inr ⟨_, .head _, hd, _, rfl⟩, .inr ⟨_, _, _, _, rfl, nofun, hr, hm, rfl⟩⟩
  case cmpxchg =>
    obtain ⟨a, b, c, s1, s2, s3, hr, hr2, hr3, -, hm, rfl⟩ := atomicCmpxchg_next h
    obtain ⟨j, rfl⟩ := readReg_readReg_drawn hr hr2
    obtain ⟨k, rfl⟩ := readReg_drawn hr3
    rw [drawn_drawn] at hm ⊢
    split
    case isTrue =>
      exact ⟨⟨j + k, rfl⟩, .inr ⟨_, .head _, nofun, _, rfl⟩, .inr ⟨_, _, _, _, rfl, nofun, hr, hm, rfl⟩⟩
    case isFalse => exact ⟨⟨j + k, rfl⟩, .inr ⟨_, .head _, nofun, _, rfl⟩, .inl rfl⟩
  case imm64 =>
    obtain ⟨hd, rfl⟩ := loadImm64_next h
    exact ⟨⟨0, rfl⟩, .inr ⟨_, .head _, hd, _, rfl⟩, .inl rfl⟩
  case addr =>
    obtain ⟨hd, v, -, rfl⟩ := loadAddr_next h
    exact ⟨⟨0, rfl⟩, .inr ⟨_, .head _, hd, _, rfl⟩, .inl rfl⟩
  case mapValue =>
    obtain ⟨hd, -, m, v, -, -, rfl⟩ := loadMapValue_next h
    exact ⟨⟨0, rfl⟩, .inr ⟨_, .head _, hd, _, rfl⟩, .inl rfl⟩
  case legacy => cases h
  case helper | call | exit => cases hφ

/-! ### Every instruction -/

/-- The answer a helper call takes leaves the queue and the draw counter changed, nothing else. -/
theorem takeAnswer_state (call : HelperCall) (s : State) :
    ∃ q k, (takeAnswer call s).2 = { s with helperQueue := q, draws := s.draws + k } := by
  unfold takeAnswer
  split
  case h_1 a rest _ => exact ⟨rest, 0, rfl⟩
  case h_2 => exact ⟨s.helperQueue, 1, rfl⟩

/-- What an instruction that completes has done. -/
inductive Completes (i : Instr) (s t : State) : Prop where
  | plain (step : PlainStep (writesOf i) (accessOf i) s t)
  | helper (isHelper : isHelperCall i = true) (writes : writesOf i = [.r0, .r1, .r2, .r3, .r4, .r5])
      (access : accessOf i = none) (a : HelperAnswer) (q : List HelperAnswer) (k : Nat)
      (state : t = finishHelper a { s with helperQueue := q, draws := s.draws + k })
  | call (k : BitVec 32) (isCall : i = .callLocal k) (room : s.cs.length < s.plat.maxCallDepth)
      (state : t = ((((s.setCs (frameOf s :: s.cs)).clobberSaved).setReg .r10
        (.word (frameTop s.plat (s.cs.length + 1)))).goto (s.pc + 1 + k.toInt)))
  | outermostExit (isExit : i = .exit) (v : Word) (k : Nat) (state : t = (drawn s k).setStatus (.exited v))
  | innerExit (isExit : i = .exit) (f : Frame) (rest : List Frame) (stack : s.cs = f :: rest)
      (state : t = returnTo f rest s)

theorem exec_next {i : Instr} {s t : State} (h : exec i s = .next t) : Completes i s t := by
  obtain ⟨φ, form⟩ := exists_form i
  rw [form.exec_eq] at h
  by_cases hφ : φ.isControl = false
  · exact .plain (form.writes_eq ▸ form.access_eq ▸ Form.run_next hφ h)
  cases φ
  case helper known id key =>
    obtain ⟨-, ht⟩ := helperCall_next h
    obtain ⟨q, k, hq⟩ := takeAnswer_state (callOf key s) s
    exact .helper form.isHelper_eq form.writes_eq form.access_eq _ q k (hq ▸ ht)
  case call k =>
    obtain ⟨room, ht⟩ := localCall_next h
    exact .call k (form.eq_callLocal k rfl) room ht
  case exit =>
    rcases exitProgram_next h with ⟨-, v, s1, hr, ht⟩ | ⟨f, rest, stack, ht⟩
    · obtain ⟨k, rfl⟩ := readReg_drawn hr
      exact .outermostExit (form.eq_exit rfl) v k ht
    · exact .innerExit (form.eq_exit rfl) f rest stack ht
  all_goals exact absurd rfl hφ

end Sys2Proof.FormProofs

/-! The invariant of the machine (10_state.md sections 1, 5 and 6). -/

namespace Sys2Proof.InvariantProofs

open Sys2Proof.Machine Sys2Proof.FormProofs

/-! ### The parts of the invariant -/

theorem get_of_regsAfter {W : List Reg} {r r' : RegFile} (h : RegsAfter W r r') {q : Reg} (hq : q ∉ W) :
    r'.get q = r.get q := by
  rcases h with rfl | ⟨d, hd, -, v, rfl⟩
  · rfl
  · exact r.get_set_ne _ fun hqd => hq (hqd ▸ hd)

theorem r10_of_regsAfter {W : List Reg} {r r' : RegFile} (h : RegsAfter W r r') : r'.r10 = r.r10 := by
  rcases h with rfl | ⟨d, -, hd, v, rfl⟩
  · rfl
  · exact r.r10_set _ hd

theorem memoryWf_of_memAfter {A : Option Access} {s : State} {m : Memory} (h : MemAfter A s m)
    (hs : memoryWf s.mem = true) : memoryWf m = true := by
  rcases h with rfl | ⟨a, b, s1, v, -, -, -, admitted, rfl⟩
  · exact hs
  · exact memoryWf_memWrite hs (memAdmit_le admitted)

theorem framesOk_cons {p : Platform} {f : Frame} {rest : List Frame} :
    framesOk p (f :: rest) = true ↔ f.r10 = .word (frameTop p rest.length) ∧ framesOk p rest = true := by
  simp [framesOk]

theorem returnsOk_cons {n : Nat} {f : Frame} {rest : List Frame} :
    returnsOk n (f :: rest) = true ↔ (1 ≤ f.ret ∧ f.ret ≤ n) ∧ returnsOk n rest = true := by
  simp [returnsOk]

/-! ### A step's instruction lies inside the program -/

theorem slotAt_bounds {prog : List Slot} {pc : Int} {a : Slot} (h : slotAt prog pc = some a) :
    0 ≤ pc ∧ pc < prog.length := by
  unfold slotAt at h
  split at h
  case isTrue => cases h
  case isFalse hpc =>
    obtain ⟨hlt, -⟩ := List.getElem?_eq_some_iff.mp h
    omega

/-- A step that answers a state runs the instruction that its slots decode to. -/
theorem step_next {s t : State} (h : step s = .next t) :
    s.st = .running ∧ ∃ a i, slotAt s.prog s.pc = some a ∧
      decode s.plat.endian a (slotAt s.prog (s.pc + 1)) = .ok i ∧ exec i s = .next t := by
  unfold step at h
  split at h
  case h_2 | h_3 => cases h
  case h_1 running =>
    unfold fetch at h
    split at h
    case h_2 => cases h
    case h_1 i fetched =>
      split at fetched
      case h_1 => cases fetched
      case h_2 a slot =>
        split at fetched
        case h_2 => cases fetched
        case h_1 decoded => cases fetched; exact ⟨running, a, i, slot, decoded, h⟩

/-! ### The invariant is kept -/

theorem inv_of_plainStep {W : List Reg} {A : Option Access} {s t : State} (h : PlainStep W A s t) (hs : s.Inv) :
    t.Inv := by
  obtain ⟨⟨k, ht⟩, regs, mem⟩ := h
  rw [ht]
  exact ⟨memoryWf_of_memAfter mem hs.memory, hs.depth, (r10_of_regsAfter regs).trans hs.frame, hs.saved, hs.returns⟩

theorem inv_finishHelper {s : State} (hs : s.Inv) (a : HelperAnswer) (q : List HelperAnswer) (k : Nat) :
    (finishHelper a { s with helperQueue := q, draws := s.draws + k }).Inv :=
  ⟨memoryWf_writeAll hs.memory, hs.depth, hs.frame, hs.saved, hs.returns⟩

/-- The frame a call pushes holds the caller's R10, which is the caller's `FrameTop`, and returns past the call. -/
theorem inv_localCall {s : State} (hs : s.Inv) (room : s.cs.length < s.plat.maxCallDepth) (lo : 0 ≤ s.pc)
    (hi : s.pc < s.prog.length) (target : Int) :
    ((((s.setCs (frameOf s :: s.cs)).clobberSaved).setReg .r10
      (.word (frameTop s.plat (s.cs.length + 1)))).goto target).Inv := by
  refine ⟨hs.memory, room, rfl, framesOk_cons.mpr ⟨hs.frame, hs.saved⟩, returnsOk_cons.mpr ⟨⟨?_, ?_⟩, hs.returns⟩⟩
  case refine_1 => exact Int.le_add_of_nonneg_left lo
  case refine_2 => exact hi

/-- The newest frame holds the `FrameTop` of the depth it returns to. -/
theorem inv_returnTo {s : State} {f : Frame} {rest : List Frame} (hs : s.Inv) (stack : s.cs = f :: rest) :
    (returnTo f rest s).Inv := by
  obtain ⟨memory, depth, -, saved, returns⟩ := hs
  rw [stack] at depth saved returns
  exact ⟨memory, Nat.le_of_succ_le depth, (framesOk_cons.mp saved).1, (framesOk_cons.mp saved).2,
    (returnsOk_cons.mp returns).2⟩

/-- Settles O3, by what the instruction of the step can have done. -/
theorem everyStepKeepsTheInvariant : Obligations.EveryStepKeepsTheInvariant := by
  unfold Obligations.EveryStepKeepsTheInvariant
  intro s t hs hstep
  obtain ⟨-, a, i, slot, -, hexec⟩ := step_next hstep
  obtain ⟨lo, hi⟩ := slotAt_bounds slot
  cases exec_next hexec with
  | plain change =>
    obtain ⟨k, ht⟩ := change.rest
    exact ⟨inv_of_plainStep change hs, .inl (by rw [ht])⟩
  | helper _ _ _ a q k state =>
    subst state
    exact ⟨inv_finishHelper hs a q k, .inl rfl⟩
  | call k _ room state =>
    subst state
    exact ⟨inv_localCall hs room lo hi _, .inr (.inl rfl)⟩
  | outermostExit _ v k state =>
    subst state
    exact ⟨⟨hs.memory, hs.depth, hs.frame, hs.saved, hs.returns⟩, .inl rfl⟩
  | innerExit _ f rest stack state =>
    subst state
    exact ⟨inv_returnTo hs stack, .inr (.inr ⟨f, stack, rfl, rfl, rfl, rfl, rfl, rfl⟩)⟩

/-- Settles O2: a launch has an empty call stack and `FrameTop(0)` in R10. -/
theorem invariantHoldsAtReset : Obligations.InvariantHoldsAtReset := by
  unfold Obligations.InvariantHoldsAtReset
  have launched (p : Platform) (prog : List Slot) (mem : Memory) (h : memoryWf mem = true) :
      (State.launch p prog mem).Inv := ⟨h, Nat.zero_le _, rfl, rfl, rfl⟩
  exact ⟨launched _ _ _ memoryWf_reset, launched⟩

end Sys2Proof.InvariantProofs

/-! What instructions and runs leave unchanged: registers, memory, control, the program; the end of a run. -/

namespace Sys2Proof.FrameProofs

open Sys2Proof.Machine Sys2Proof.FormProofs Sys2Proof.InvariantProofs

/-- Settles O22, by what the instruction can have done. -/
theorem registerFrame : Obligations.RegisterFrame := by
  unfold Obligations.RegisterFrame
  intro i s t r hexec hr
  cases exec_next hexec with
  | plain change => exact get_of_regsAfter change.regs hr
  | helper _ writes _ a q k state =>
    rw [writes] at hr
    subst state
    cases r
    case r6 | r7 | r8 | r9 | r10 => rfl
    case r0 | r1 | r2 | r3 | r4 | r5 => exact absurd (by decide) hr
  | call k isCall _ state =>
    subst state isCall
    cases r
    case r0 | r1 | r2 | r3 | r4 | r5 => rfl
    case r6 | r7 | r8 | r9 | r10 => exact absurd (by simp [writesOf]) hr
  | outermostExit _ v k state => subst state; rfl
  | innerExit isExit f rest _ state =>
    subst state isExit
    cases r
    case r0 => rfl
    all_goals exact absurd (by decide) hr

/-! ### Memory -/

theorem mem_of_memAfter_read {A : Option Access} {s : State} {m : Memory} (h : MemAfter A s m)
    (hA : ∀ a, A = some a → a.kind = .read) : m = s.mem := by
  rcases h with hm | ⟨a, b, s1, v, ha, write, -⟩
  · exact hm
  · exact absurd (hA a ha) write

theorem readByte_of_memAfter {s s1 : State} {m : Memory} {a : Access} {b : Word} {x : Nat}
    (h : MemAfter (some a) s m) (hbase : s.readReg a.base = some (b, s1))
    (hx : ¬ inAccess (effectiveAddress b a.off) a.n x) : readByte m x = readByte s.mem x := by
  rcases h with rfl | ⟨a', b', s1', v, ha, -, hbase', -, rfl⟩
  · rfl
  · cases ha
    cases hbase.symm.trans hbase'
    exact readByte_memWrite_ne _ _ _ _ _ (by unfold inAccess at hx; omega)

theorem mayChangeMemory_eq_false {i : Instr} : mayChangeMemory i = false ↔
    isHelperCall i = false ∧ ∀ a, accessOf i = some a → a.kind = .read := by
  unfold mayChangeMemory
  cases h : accessOf i <;> simp

/-- Settles O23: memory is replaced only by a helper's answer or through the instruction's access. -/
theorem memoryFrame : Obligations.MemoryFrame := by
  unfold Obligations.MemoryFrame
  refine ⟨fun i s t hexec hi => ?_, fun i s t s1 a b x hexec ha hbase hx => ?_⟩
  case refine_1 =>
    obtain ⟨noHelper, reads⟩ := mayChangeMemory_eq_false.mp hi
    cases exec_next hexec with
    | plain change => exact mem_of_memAfter_read change.mem reads
    | helper isHelper => exact absurd (noHelper.symm.trans isHelper) Bool.false_ne_true
    | call _ _ _ state | outermostExit _ _ _ state | innerExit _ _ _ _ state => rw [state]; rfl
  case refine_2 =>
    cases exec_next hexec with
    | plain change => exact readByte_of_memAfter (ha ▸ change.mem) hbase hx
    | helper _ _ access => exact nomatch access.symm.trans ha
    | call _ isCall => subst isCall; cases ha
    | outermostExit isExit | innerExit isExit => subst isExit; cases ha

/-! ### Control -/

/-- Settles O24, by what the instruction can have done. -/
theorem controlFrame : Obligations.ControlFrame := by
  unfold Obligations.ControlFrame
  intro i s t hexec
  cases exec_next hexec with
  | plain change =>
    obtain ⟨k, ht⟩ := change.rest
    rw [ht]
    exact ⟨rfl, rfl, fun _ _ => rfl, fun _ => rfl, fun _ => rfl, Nat.le_add_right _ _⟩
  | helper isHelper _ _ a q k state =>
    subst state
    exact ⟨rfl, rfl, fun _ _ => rfl, fun _ => rfl,
      fun noHelper => absurd (noHelper.symm.trans isHelper) Bool.false_ne_true,
      Nat.le_add_right _ _⟩
  | call k isCall _ state =>
    subst state
    exact ⟨rfl, rfl, fun noCall => absurd isCall (noCall k), fun _ => rfl, fun _ => rfl, Nat.le_refl _⟩
  | outermostExit isExit v k state =>
    subst state
    exact ⟨rfl, rfl, fun _ _ => rfl, fun noExit => absurd isExit noExit, fun _ => rfl, Nat.le_add_right _ _⟩
  | innerExit isExit f rest _ state =>
    subst state
    exact ⟨rfl, rfl, fun _ noExit => absurd isExit noExit, fun _ => rfl, fun _ => rfl, Nat.le_refl _⟩

/-! ### Runs -/

theorem settle_step_prog_plat (s : State) :
    (s.settle (step s)).prog = s.prog ∧ (s.settle (step s)).plat = s.plat := by
  cases hstep : step s with
  | next t =>
    obtain ⟨-, -, i, -, -, hexec⟩ := step_next hstep
    obtain ⟨prog, plat, -⟩ := controlFrame i s t hexec
    exact ⟨prog, plat⟩
  | fault f => exact ⟨rfl, rfl⟩
  | refused r => exact ⟨rfl, rfl⟩

/-- Settles O17, by induction on the number of steps. -/
theorem programAndPlatformNeverChange : Obligations.ProgramAndPlatformNeverChange := by
  unfold Obligations.ProgramAndPlatformNeverChange
  intro s n
  induction n generalizing s with
  | zero => exact ⟨rfl, rfl⟩
  | succ n ih =>
    obtain ⟨prog, plat⟩ := settle_step_prog_plat s
    obtain ⟨prog', plat'⟩ := ih (s.settle (step s))
    exact ⟨prog'.trans prog, plat'.trans plat⟩

/-- While the status is not Running no step exists (60_exceptions.md R241; 42_jump.md R174). -/
theorem step_of_not_running {s : State} (h : s.st ≠ .running) : step s = .refused .runOver := by
  unfold step
  split
  case h_1 running => exact absurd running h
  case h_2 | h_3 => rfl

theorem after_of_not_running {s : State} (h : s.st ≠ .running) (n : Nat) : s.after n = s := by
  induction n with
  | zero => rfl
  | succ n ih => rw [State.after, step_of_not_running h, State.settle_refused, ih]

/-- Settles O16: a fault and an exit alike leave a status other than Running. -/
theorem aFaultEndsTheRunAndChangesNothingElse : Obligations.AFaultEndsTheRunAndChangesNothingElse := by
  unfold Obligations.AFaultEndsTheRunAndChangesNothingElse
  refine ⟨fun s f hstep => ?_, fun s v n hst => ?_⟩
  case refine_1 =>
    have ended : (s.setStatus (.faulted f)).st ≠ .running := nofun
    rw [hstep, State.settle_fault]
    refine ⟨rfl, fun n => ?_⟩
    rw [after_of_not_running ended]
    exact ⟨rfl, step_of_not_running ended⟩
  case refine_2 =>
    have ended : s.st ≠ .running := hst ▸ nofun
    exact ⟨step_of_not_running ended, after_of_not_running ended n⟩

end Sys2Proof.FrameProofs

/-! How the operations treat the program, unwritten registers, R10, and accesses that fail a check. -/

namespace Sys2Proof.FaultProofs

open Sys2Proof.Machine Sys2Proof.FormProofs

/-! ### No operation reads the program (10_state.md R32) -/

section
variable (prog : List Slot)

/-- The state with another program in place. -/
def onProgram (s : State) : State := { s with prog := prog }

/-- The outcome with another program in place. -/
def withProgram : Result → Result
  | .next t => .next (onProgram prog t)
  | .fault f => .fault f
  | .refused r => .refused r

variable {prog} {s : State} {r r' : Result}

theorem readReg_onProgram (q : Reg) :
    (onProgram prog s).readReg q = (s.readReg q).map fun p => (p.1, onProgram prog p.2) := by
  simp only [State.readReg, onProgram]
  cases s.regs.get q
  case word => rfl
  case unwritten => cases s.plat.unwrittenRead <;> rfl

theorem withReg_onProgram (q : Reg) {k k' : Word → State → Result}
    (h : ∀ v u, k' v (onProgram prog u) = withProgram prog (k v u)) :
    withReg q (onProgram prog s) k' = withProgram prog (withReg q s k) := by
  unfold withReg
  rw [readReg_onProgram]
  cases s.readReg q with
  | none => rfl
  | some p => exact h p.1 p.2

theorem guardDst_onProgram (d : Reg) (h : r' = withProgram prog r) :
    guardDst d (onProgram prog s) r' = withProgram prog (guardDst d s r) := by
  subst h
  unfold guardDst
  rw [apply_ite (withProgram prog)]
  rfl

theorem withLookup_onProgram (o : Option Word) (l : Lookup) {k k' : Word → Result}
    (h : ∀ v, k' v = withProgram prog (k v)) : withLookup o l k' = withProgram prog (withLookup o l k) := by
  cases o
  case none => rfl
  case some v => exact h v

theorem checkAccess_onProgram (strict : Bool) (ea : Word) (n : Nat) (kind : AccessKind)
    (h : r' = withProgram prog r) :
    checkAccess strict ea n kind (onProgram prog s) r' = withProgram prog (checkAccess strict ea n kind s r) := by
  subst h
  unfold checkAccess
  rw [apply_ite (withProgram prog), apply_ite (withProgram prog)]
  rfl

theorem branch_onProgram (taken : Bool) (off : BitVec 16) :
    branch taken off (onProgram prog s) = withProgram prog (branch taken off s) := by
  cases taken <;> rfl

theorem atomicAccess_onProgram (w : Nat) (base : Word) (off : BitVec 16) {k k' : Word → BitVec w → Result}
    (h : ∀ ea old, k' ea old = withProgram prog (k ea old)) :
    atomicAccess w base off (onProgram prog s) k' = withProgram prog (atomicAccess w base off s k) :=
  checkAccess_onProgram _ _ _ _ (h _ _)

theorem helperCall_onProgram (known : List (BitVec 32)) (id : BitVec 32) (key : HelperKey) :
    helperCall known id key (onProgram prog s) = withProgram prog (helperCall known id key s) := by
  have answer : takeAnswer (callOf key (onProgram prog s)) (onProgram prog s) =
      ((takeAnswer (callOf key s) s).1, onProgram prog (takeAnswer (callOf key s) s).2) := by
    simp only [takeAnswer, onProgram]
    cases s.helperQueue <;> rfl
  unfold helperCall
  rw [apply_ite (withProgram prog), answer]
  rfl

theorem localCall_onProgram (d : Int) : localCall d (onProgram prog s) = withProgram prog (localCall d s) := by
  unfold localCall
  rw [apply_ite (withProgram prog)]
  rfl

theorem exitProgram_onProgram : exitProgram (onProgram prog s) = withProgram prog (exitProgram s) := by
  have stack : (onProgram prog s).cs = s.cs := rfl
  unfold exitProgram
  rw [stack]
  cases s.cs
  case nil => exact withReg_onProgram _ fun _ _ => rfl
  case cons => rfl

theorem run_onProgram (φ : Form) (s : State) : φ.run (onProgram prog s) = withProgram prog (φ.run s) := by
  cases φ
  case aluK | unary => exact guardDst_onProgram _ (withReg_onProgram _ fun _ _ => rfl)
  case aluX => exact guardDst_onProgram _ (withReg_onProgram _ fun _ _ => withReg_onProgram _ fun _ _ => rfl)
  case movK | imm64 => exact guardDst_onProgram _ rfl
  case movX | movsx => exact guardDst_onProgram _ (withReg_onProgram _ fun _ _ => rfl)
  case jump | legacy => rfl
  case jumpK => exact withReg_onProgram _ fun _ _ => branch_onProgram _ _
  case jumpX => exact withReg_onProgram _ fun _ _ => withReg_onProgram _ fun _ _ => branch_onProgram _ _
  case helper => exact helperCall_onProgram _ _ _
  case call => exact localCall_onProgram _
  case exit => exact exitProgram_onProgram
  case load =>
    exact guardDst_onProgram _ (withReg_onProgram _ fun _ _ => checkAccess_onProgram _ _ _ _ rfl)
  case storeK => exact withReg_onProgram _ fun _ _ => checkAccess_onProgram _ _ _ _ rfl
  case storeX =>
    exact withReg_onProgram _ fun _ _ => withReg_onProgram _ fun _ _ => checkAccess_onProgram _ _ _ _ rfl
  case atomic =>
    exact withReg_onProgram _ fun _ _ => withReg_onProgram _ fun _ _ =>
      atomicAccess_onProgram _ _ _ fun _ _ => rfl
  case fetch =>
    exact guardDst_onProgram _ (withReg_onProgram _ fun _ _ => withReg_onProgram _ fun _ _ =>
      atomicAccess_onProgram _ _ _ fun _ _ => rfl)
  case cmpxchg =>
    exact withReg_onProgram _ fun _ _ => withReg_onProgram _ fun _ _ => withReg_onProgram _ fun _ _ =>
      atomicAccess_onProgram _ _ _ fun _ _ => by split <;> rfl
  case addr => exact guardDst_onProgram _ (withLookup_onProgram _ _ fun _ => rfl)
  case mapValue => exact guardDst_onProgram _ (by
    rw [apply_ite (withProgram prog)]
    exact congrArg _ (withLookup_onProgram _ _ fun _ => withLookup_onProgram _ _ fun _ => rfl))

end

/-- Settles O18: every form commutes with the replacement of the program. -/
theorem instructionsCannotReadTheProgram : Obligations.InstructionsCannotReadTheProgram := by
  unfold Obligations.InstructionsCannotReadTheProgram
  intro i s prog
  have commutes : exec i (onProgram prog s) = withProgram prog (exec i s) := by
    obtain ⟨φ, form⟩ := exists_form i
    rw [form.exec_eq, form.exec_eq, run_onProgram]
  exact ⟨fun t h => commutes.trans (congrArg (withProgram prog) h),
    fun f h => commutes.trans (congrArg (withProgram prog) h)⟩

/-! ### Unwritten registers where reads fault (10_state.md R23; 60_exceptions.md R244) -/

/-- A computation whose first acts are reads of these registers, in this order. -/
inductive ReadsFirst : List Reg → (State → Result) → Prop where
  | nil (m : State → Result) : ReadsFirst [] m
  | cons {q : Reg} {qs : List Reg} {k : Word → State → Result} (h : ∀ v, ReadsFirst qs (k v)) :
      ReadsFirst (q :: qs) fun s => withReg q s k

theorem regCell_ne_unwritten {c : RegCell} (h : c ≠ .unwritten) : ∃ v, c = .word v := by
  cases c
  case unwritten => exact absurd rfl h
  case word v => exact ⟨v, rfl⟩

/-- Reads of written registers change nothing, so the first unwritten register decides. -/
theorem ReadsFirst.faults {pre post : List Reg} {q : Reg} {s : State} (hp : s.plat.unwrittenRead = .fault)
    (written : ∀ p ∈ pre, s.regs.get p ≠ .unwritten) (unwritten : s.regs.get q = .unwritten) {m : State → Result}
    (hm : ReadsFirst (pre ++ q :: post) m) : m s = .fault (.unwrittenRegister q) := by
  induction pre generalizing m with
  | nil =>
    cases hm
    exact withReg_none (State.readReg_fault unwritten hp)
  | cons p pre ih =>
    cases hm
    case cons hm =>
      obtain ⟨v, hv⟩ := regCell_ne_unwritten (written p (.head _))
      exact (withReg_eq (State.readReg_word hv)).trans (ih (fun r hr => written r (.tail _ hr)) (hm v))

theorem ne_r10_of_bne {d : Reg} (h : (d != .r10) = true) : d ≠ .r10 := bne_iff_ne.mp h

theorem ReadsFirst.one {q : Reg} (k : Word → State → Result) : ReadsFirst [q] fun s => withReg q s k :=
  .cons fun _ => .nil _

theorem ReadsFirst.two {q r : Reg} (k : Word → Word → State → Result) :
    ReadsFirst [q, r] fun s => withReg q s fun a s => withReg r s (k a) :=
  .cons fun _ => .one _

theorem ReadsFirst.three {q r p : Reg} (k : Word → Word → Word → State → Result) :
    ReadsFirst [q, r, p] fun s => withReg q s fun a s => withReg r s fun b s => withReg p s (k a b) :=
  .cons fun _ => .two _

/-- An instruction some encoding stands for reads its registers before anything else. -/
theorem run_readsFirst {φ : Form} (s : State) (h : φ.wellFormed = true) :
    ∃ m, ReadsFirst (φ.reads s.cs) m ∧ φ.run s = m s := by
  cases φ
  case aluK | unary | movX | movsx | load => exact ⟨_, .one _, guardDst_eq (ne_r10_of_bne h)⟩
  case aluX | fetch => exact ⟨_, .two _, guardDst_eq (ne_r10_of_bne h)⟩
  case jumpK | storeK => exact ⟨_, .one _, rfl⟩
  case jumpX | storeX | atomic => exact ⟨_, .two _, rfl⟩
  case cmpxchg => exact ⟨_, .three _, rfl⟩
  case exit =>
    cases hcs : s.cs with
    | nil => exact ⟨_, .one _, by simp only [Form.run, exitProgram, hcs]; rfl⟩
    | cons f rest => exact ⟨_, .nil exitProgram, rfl⟩
  case movK | jump | helper | call | imm64 | addr | mapValue | legacy => exact ⟨_, .nil (Form.run _), rfl⟩

/-! ### Unwritten registers where reads draw (10_state.md R23) -/

/-- The outcome is not the fault of an unwritten register. -/
def NotUnwritten (r : Result) : Prop := ∀ q, r ≠ .fault (.unwrittenRegister q)

section
variable {s : State} {r : Result}

theorem guardDst_notUnwritten (d : Reg) (h : NotUnwritten r) : NotUnwritten (guardDst d s r) := by
  unfold guardDst
  split
  · nofun
  · exact h

theorem withReg_notUnwritten (q : Reg) {k : Word → State → Result} (draws : s.plat.unwrittenRead = .draw)
    (h : ∀ v u, u.plat.unwrittenRead = .draw → NotUnwritten (k v u)) : NotUnwritten (withReg q s k) := by
  cases hq : s.regs.get q with
  | word v =>
    rw [withReg_eq (State.readReg_word hq)]
    exact h v s draws
  | unwritten =>
    rw [withReg_eq (State.readReg_draw hq draws)]
    exact h _ _ draws

theorem withLookup_notUnwritten (o : Option Word) (l : Lookup) {k : Word → Result} (h : ∀ v, NotUnwritten (k v)) :
    NotUnwritten (withLookup o l k) := by
  cases o
  case none => nofun
  case some v => exact h v

theorem checkAccess_notUnwritten (strict : Bool) (ea : Word) (n : Nat) (kind : AccessKind) (h : NotUnwritten r) :
    NotUnwritten (checkAccess strict ea n kind s r) := by
  unfold checkAccess
  split
  · nofun
  · split
    · exact h
    · nofun

theorem branch_notUnwritten (taken : Bool) (off : BitVec 16) : NotUnwritten (branch taken off s) := by
  cases taken <;> nofun

theorem run_notUnwritten (φ : Form) (draws : s.plat.unwrittenRead = .draw) : NotUnwritten (φ.run s) := by
  cases φ
  case aluK | unary | movX | movsx =>
    exact guardDst_notUnwritten _ (withReg_notUnwritten _ draws fun _ _ _ => nofun)
  case aluX =>
    exact guardDst_notUnwritten _ (withReg_notUnwritten _ draws fun _ _ draws =>
      withReg_notUnwritten _ draws fun _ _ _ => nofun)
  case movK | imm64 => exact guardDst_notUnwritten _ nofun
  case jump | legacy => nofun
  case jumpK => exact withReg_notUnwritten _ draws fun _ _ _ => branch_notUnwritten _ _
  case jumpX =>
    exact withReg_notUnwritten _ draws fun _ _ draws =>
      withReg_notUnwritten _ draws fun _ _ _ => branch_notUnwritten _ _
  case helper =>
    simp only [Form.run, helperCall]
    split <;> nofun
  case call =>
    simp only [Form.run, localCall]
    split <;> nofun
  case exit =>
    simp only [Form.run, exitProgram]
    split
    · exact withReg_notUnwritten _ draws fun _ _ _ => nofun
    · nofun
  case load =>
    exact guardDst_notUnwritten _ (withReg_notUnwritten _ draws fun _ _ _ => checkAccess_notUnwritten _ _ _ _ nofun)
  case storeK => exact withReg_notUnwritten _ draws fun _ _ _ => checkAccess_notUnwritten _ _ _ _ nofun
  case storeX | atomic =>
    exact withReg_notUnwritten _ draws fun _ _ draws =>
      withReg_notUnwritten _ draws fun _ _ _ => checkAccess_notUnwritten _ _ _ _ nofun
  case fetch =>
    exact guardDst_notUnwritten _ (withReg_notUnwritten _ draws fun _ _ draws =>
      withReg_notUnwritten _ draws fun _ _ _ => checkAccess_notUnwritten _ _ _ _ nofun)
  case cmpxchg =>
    exact withReg_notUnwritten _ draws fun _ _ draws => withReg_notUnwritten _ draws fun _ _ draws =>
      withReg_notUnwritten _ draws fun _ _ _ => checkAccess_notUnwritten _ _ _ _ nofun
  case addr => exact guardDst_notUnwritten _ (withLookup_notUnwritten _ _ fun _ => nofun)
  case mapValue =>
    refine guardDst_notUnwritten _ ?_
    split
    · nofun
    · exact withLookup_notUnwritten _ _ fun _ => withLookup_notUnwritten _ _ fun _ => nofun

end

/-- Settles O20: well-formed instructions read first, and a read that draws always gives a value. -/
theorem unwrittenReadsRaiseFirstOrNever : Obligations.UnwrittenReadsRaiseFirstOrNever := by
  unfold Obligations.UnwrittenReadsRaiseFirstOrNever
  refine ⟨fun i s pre post r wf faults reads written unwritten => ?_, fun i s r draws => ?_⟩
  case refine_1 =>
    obtain ⟨φ, form⟩ := exists_form i
    obtain ⟨m, readsFirst, run_eq⟩ := run_readsFirst s (form.wellFormed_eq ▸ wf)
    rw [form.exec_eq, run_eq]
    rw [← form.reads_eq, reads] at readsFirst
    exact readsFirst.faults faults written unwritten
  case refine_2 =>
    obtain ⟨φ, form⟩ := exists_form i
    rw [form.exec_eq]
    exact run_notUnwritten φ draws r

/-! ### R10 (10_state.md R24) -/

/-- Settles O21: the forms that write a register of their own check it before anything else. -/
theorem writingR10IsIllegal : Obligations.WritingR10IsIllegal := by
  unfold Obligations.WritingR10IsIllegal
  intro i s writes noCall noExit
  obtain ⟨φ, form⟩ := exists_form i
  rw [form.exec_eq]
  rw [form.writes_eq] at writes
  cases φ
  case aluK | aluX | unary | movK | movX | movsx | load | fetch | imm64 | addr | mapValue =>
    obtain rfl := List.mem_singleton.mp writes
    rfl
  case jump | jumpK | jumpX | storeK | storeX | atomic | legacy => cases writes
  case helper | cmpxchg => exact absurd writes (by simp [Form.writes])
  case call k => exact absurd (form.eq_callLocal k rfl) (noCall k)
  case exit => exact absurd (form.eq_exit rfl) noExit

/-! ### Alignment and admission (20_memory.md R43, R47) -/

theorem checkAccess_misaligned {strict : Bool} {ea : Word} {n : Nat} (kind : AccessKind) (s : State) (r : Result)
    (asked : strict = true) (h : ea.toNat % n ≠ 0) : checkAccess strict ea n kind s r = .fault (.misaligned ea n) := by
  simp [checkAccess, asked, h, raise]

theorem checkAccess_inadmissible {strict : Bool} {ea : Word} {n : Nat} {kind : AccessKind} {s : State} (r : Result)
    (aligned : strict = true → ea.toNat % n = 0) (h : memAdmit s.plat ea n kind = false) :
    checkAccess strict ea n kind s r = .fault (.memoryFault ea n kind) := by
  cases strict <;> simp_all [checkAccess, raise]

/-- Whether a misaligned access of a kind faults: an atomic one always does (20_memory.md R43). -/
def strictFor (p : Platform) (kind : AccessKind) : Bool := kind == .atomic || p.strictAlign

theorem strictFor_eq_true {p : Platform} {kind : AccessKind} :
    strictFor p kind = true ↔ kind = .atomic ∨ p.strictAlign = true := by
  simp [strictFor]

/-- With its registers written, an instruction that accesses memory is the check of its access. -/
theorem run_eq_checkAccess {φ : Form} {s : State} {a : Access} {b : Word} (wf : φ.wellFormed = true)
    (access : φ.access = some a) (written : ∀ r ∈ φ.reads s.cs, s.regs.get r ≠ .unwritten)
    (base : s.regs.get a.base = .word b) :
    ∃ r, φ.run s = checkAccess (strictFor s.plat a.kind) (effectiveAddress b a.off) a.n a.kind s r := by
  have reading (q : Reg) (hq : q ∈ φ.reads s.cs) : ∃ v, s.readReg q = some (v, s) :=
    (regCell_ne_unwritten (written q hq)).imp fun _ => State.readReg_word
  have readBase := State.readReg_word base
  cases φ
  case load =>
    cases access
    exact ⟨_, (guardDst_eq (ne_r10_of_bne wf)).trans (withReg_eq readBase)⟩
  case storeK =>
    cases access
    exact ⟨_, withReg_eq readBase⟩
  case storeX | atomic =>
    cases access
    obtain ⟨c, readSrc⟩ := reading _ (.tail _ (.head _))
    exact ⟨_, (withReg_eq readBase).trans (withReg_eq readSrc)⟩
  case fetch =>
    cases access
    obtain ⟨c, readSrc⟩ := reading _ (.tail _ (.head _))
    exact ⟨_, (guardDst_eq (ne_r10_of_bne wf)).trans ((withReg_eq readBase).trans (withReg_eq readSrc))⟩
  case cmpxchg =>
    cases access
    obtain ⟨c, readSrc⟩ := reading _ (.tail _ (.head _))
    obtain ⟨c0, readR0⟩ := reading .r0 (.tail _ (.tail _ (.head _)))
    exact ⟨_, (withReg_eq readBase).trans ((withReg_eq readSrc).trans (withReg_eq readR0))⟩
  all_goals cases access

theorem exec_eq_checkAccess {i : Instr} {s : State} {a : Access} {b : Word} (wf : i.wellFormed = true)
    (access : accessOf i = some a) (written : ∀ r ∈ readsOf s.cs i, s.regs.get r ≠ .unwritten)
    (base : s.regs.get a.base = .word b) :
    ∃ r, exec i s = checkAccess (strictFor s.plat a.kind) (effectiveAddress b a.off) a.n a.kind s r := by
  obtain ⟨φ, form⟩ := exists_form i
  rw [form.exec_eq]
  exact run_eq_checkAccess (form.wellFormed_eq ▸ wf) (form.access_eq ▸ access) (form.reads_eq s.cs ▸ written) base

/-- Settles O51: alignment is the first of the checks. -/
theorem misalignedAccessRaises : Obligations.MisalignedAccessRaises := by
  unfold Obligations.MisalignedAccessRaises
  intro i s a b ea wf access written base hea misaligned asked
  obtain ⟨r, hexec⟩ := exec_eq_checkAccess wf access written base
  subst hea
  exact hexec.trans (checkAccess_misaligned a.kind s r (strictFor_eq_true.mpr asked) misaligned)

/-- Settles O52: admission is the second check; an access past the top of memory and an atomic one without the other
permissions are refused by `memAdmit` itself. -/
theorem inadmissibleAccessRaises : Obligations.InadmissibleAccessRaises := by
  unfold Obligations.InadmissibleAccessRaises
  refine ⟨?raises, ?top, ?atomic⟩
  case raises =>
    intro i s a b ea wf access written base hea aligned refused
    obtain ⟨r, hexec⟩ := exec_eq_checkAccess wf access written base
    subst hea
    exact hexec.trans (checkAccess_inadmissible r (fun asked => aligned (strictFor_eq_true.mp asked)) refused)
  case top =>
    intro p ea n kind htop
    exact Bool.eq_false_iff.mpr fun admitted => absurd (memAdmit_le admitted) (Nat.not_le.mpr htop)
  case atomic =>
    intro p ea n admitted
    obtain ⟨fits, -, both⟩ := memAdmit_iff.mp admitted
    obtain ⟨reads, writes⟩ := both rfl
    exact ⟨memAdmit_iff.mpr ⟨fits, reads, nofun⟩, memAdmit_iff.mpr ⟨fits, writes, nofun⟩⟩

/-! ### The stack (decision D33) -/

/-- The stack region of a depth a run can reach is one of the launch's regions. -/
theorem permitted_stack {p : Platform} {k : Nat} {ea : Word} {n : Nat} {kind : AccessKind} (hk : k ≤ p.maxCallDepth)
    (lo : (frameTop p k).toNat - p.stackSize ≤ ea.toNat) (hi : ea.toNat + n ≤ (frameTop p k).toNat)
    (hkind : kind = .atomic → p.stackAtomic = true) : permitted p ea n kind = true := by
  refine permitted_iff.mpr (.inl ⟨stackRegion p k, ?listed, ?permits, ?holds⟩)
  case listed =>
    exact List.mem_append_right _ (List.mem_map_of_mem (List.mem_range.mpr (Nat.lt_succ_of_le hk)))
  case permits =>
    cases kind
    case read | write => rfl
    case atomic => exact hkind rfl
  case holds =>
    have size : ea.toNat + n ≤ (frameTop p k).toNat - p.stackSize + min p.stackSize (frameTop p k).toNat := by omega
    exact Bool.and_eq_true_iff.mpr ⟨decide_eq_true lo, decide_eq_true size⟩

/-- Settles O53: under the invariant R10 is the `FrameTop` of the depth, which is at most `MAX_CALL_DEPTH`. -/
theorem theStackIsAdmitted : Obligations.TheStackIsAdmitted := by
  unfold Obligations.TheStackIsAdmitted
  intro s top ea n kind inv r10 lo hi hkind
  obtain rfl : frameTop s.plat s.cs.length = top := RegCell.word.inj (inv.frame.symm.trans r10)
  have admits {kind : AccessKind} := permitted_stack (kind := kind) inv.depth lo hi
  exact memAdmit_iff.mpr ⟨hi.trans (BitVec.isLt _).le, admits hkind, fun _ => ⟨admits nofun, admits nofun⟩⟩

end Sys2Proof.FaultProofs

/-! The results of the arithmetic instructions, byte swaps and jumps (40_alu.md, 41_byteswap.md, 42_jump.md sections 1
to 3). -/

namespace Sys2Proof.ResultProofs

open Sys2Proof.Machine Sys2Proof.AluProofs

/-! ### The forms of arithmetic, with what they write -/

section
variable {w n : Nat} {d r : Reg} {s s1 s2 : State} {a b v : Word} {k : BitVec 32} (hd : d ≠ .r10)
include hd

theorem aluUnary_eq {f : BitVec w → BitVec w} (ha : s.readReg d = some (a, s1))
    (hv : (f (a.setWidth w)).setWidth 64 = v) : aluUnary w f d s = .next (s1.wrote d v 1) := by
  subst hv
  exact (guardDst_eq hd).trans (withReg_eq ha)

theorem aluUnary64_eq {f : Word → Word} (ha : s.readReg d = some (a, s1)) (hv : f a = v) :
    aluUnary 64 f d s = .next (s1.wrote d v 1) :=
  aluUnary_eq hd ha (by rw [BitVec.setWidth_eq, BitVec.setWidth_eq, hv])

theorem alu64K_eq {f : Word → Word → Word} (ha : s.readReg d = some (a, s1)) (hv : f a (k.signExtend 64) = v) :
    aluK 64 f d k s = .next (s1.wrote d v 1) :=
  aluUnary64_eq (f := fun a => f a (k.signExtend 64)) hd ha hv

theorem alu32K_eq {f : BitVec 32 → BitVec 32 → BitVec 32} {v : BitVec 32} (ha : s.readReg d = some (a, s1))
    (hv : f (a.setWidth 32) k = v) : aluK 32 f d k s = .next (s1.wrote d (v.setWidth 64) 1) :=
  aluUnary_eq (f := fun a => f a (k.signExtend 32)) hd ha (by rw [BitVec.signExtend_eq, hv])

theorem alu64X_eq {f : Word → Word → Word} (ha : s.readReg d = some (a, s1)) (hb : s1.readReg r = some (b, s2))
    (hv : f a b = v) : aluX 64 f d r s = .next (s2.wrote d v 1) := by
  subst hv
  refine (guardDst_eq hd).trans ((withReg_eq ha).trans ((withReg_eq hb).trans ?_))
  rw [BitVec.setWidth_eq, BitVec.setWidth_eq, writeResult, zext64, BitVec.setWidth_eq]
  rfl

theorem alu32X_eq {f : BitVec 32 → BitVec 32 → BitVec 32} {v : BitVec 32} (ha : s.readReg d = some (a, s1))
    (hb : s1.readReg r = some (b, s2)) (hv : f (a.setWidth 32) (b.setWidth 32) = v) :
    aluX 32 f d r s = .next (s2.wrote d (v.setWidth 64) 1) := by
  subst hv
  exact (guardDst_eq hd).trans ((withReg_eq ha).trans (withReg_eq hb))

theorem movK_eq (hv : (k.signExtend w).setWidth 64 = v) : movK w d k s = .next (s.wrote d v 1) := by
  subst hv
  exact guardDst_eq hd

theorem movX_eq (hb : s.readReg r = some (b, s1)) (hv : (b.setWidth w).setWidth 64 = v) :
    movX w d r s = .next (s1.wrote d v 1) := by
  subst hv
  exact (guardDst_eq hd).trans (withReg_eq hb)

theorem movsx_eq (hb : s.readReg r = some (b, s1)) (hv : ((b.setWidth n).signExtend w).setWidth 64 = v) :
    movsx n w d r s = .next (s1.wrote d v 1) := by
  subst hv
  exact (guardDst_eq hd).trans (withReg_eq hb)

end

/-! ### ADD, SUB, MUL, OR, AND, XOR (R104 to R106, R109, R110, R116) -/

/-- Settles O25. -/
theorem addSubMulResults : Obligations.AddSubMulResults := by
  unfold Obligations.AddSubMulResults
  intro s s1 d a hd ha
  refine ⟨fun k => ?_, fun r s2 b hb => ?_⟩
  · exact ⟨alu64K_eq hd ha rfl, alu32K_eq hd ha rfl, alu64K_eq hd ha rfl, alu32K_eq hd ha rfl, alu64K_eq hd ha rfl,
      alu32K_eq hd ha rfl⟩
  · exact ⟨alu64X_eq hd ha hb rfl, alu32X_eq hd ha hb rfl, alu64X_eq hd ha hb rfl, alu32X_eq hd ha hb rfl,
      alu64X_eq hd ha hb rfl, alu32X_eq hd ha hb rfl⟩

/-- Settles O26. -/
theorem bitwiseResults : Obligations.BitwiseResults := by
  unfold Obligations.BitwiseResults
  intro s s1 d a hd ha
  refine ⟨fun k => ?_, fun r s2 b hb => ?_⟩
  · exact ⟨alu64K_eq hd ha rfl, alu32K_eq hd ha rfl, alu64K_eq hd ha rfl, alu32K_eq hd ha rfl, alu64K_eq hd ha rfl,
      alu32K_eq hd ha rfl⟩
  · exact ⟨alu64X_eq hd ha hb rfl, alu32X_eq hd ha hb rfl, alu64X_eq hd ha hb rfl, alu32X_eq hd ha hb rfl,
      alu64X_eq hd ha hb rfl, alu32X_eq hd ha hb rfl⟩

/-! ### Shifts (R102, R111, R112, R119) -/

/-- Settles O27: the operations shift by the amount modulo the width (O28). -/
theorem shiftResults : Obligations.ShiftResults := by
  unfold Obligations.ShiftResults
  intro s s1 d a hd ha
  have by64 (x y : Word) := aluShifts_eq_mod (k := 6) rfl x y
  have by32 (x y : BitVec 32) := aluShifts_eq_mod (k := 5) rfl x y
  refine ⟨fun k => ?_, fun r s2 b hb => ?_⟩
  · exact ⟨alu64K_eq hd ha (by64 _ _).1, alu32K_eq hd ha (by32 _ _).1, alu64K_eq hd ha (by64 _ _).2.1,
      alu32K_eq hd ha (by32 _ _).2.1, alu64K_eq hd ha (by64 _ _).2.2, alu32K_eq hd ha (by32 _ _).2.2⟩
  · exact ⟨alu64X_eq hd ha hb (by64 _ _).1, alu32X_eq hd ha hb (by32 _ _).1, alu64X_eq hd ha hb (by64 _ _).2.1,
      alu32X_eq hd ha hb (by32 _ _).2.1, alu64X_eq hd ha hb (by64 _ _).2.2, alu32X_eq hd ha hb (by32 _ _).2.2⟩

/-! ### Division and modulo (R107, R108, R114, R115) -/

section
variable {w : Nat} (x y : BitVec w)

theorem aluDiv_eq_ite : aluDiv x y = if y = 0 then 0 else x / y := by
  have quotient : BitVec.ofNat w (x.toNat / y.toNat) = x / y := by
    rw [← BitVec.toNat_udiv, BitVec.ofNat_toNat, BitVec.setWidth_eq]
  rw [aluDiv, quotient]
  rfl

theorem aluMod_eq_ite : aluMod x y = if y = 0 then x else x % y := by
  have remainder : BitVec.ofNat w (x.toNat % y.toNat) = x % y := by
    rw [← BitVec.toNat_umod, BitVec.ofNat_toNat, BitVec.setWidth_eq]
  rw [aluMod, remainder]
  rfl

end

/-- Settles O29. -/
theorem unsignedDivisionAndModuloResults : Obligations.UnsignedDivisionAndModuloResults := by
  unfold Obligations.UnsignedDivisionAndModuloResults
  intro s s1 d a hd ha
  refine ⟨fun k => ?_, fun r s2 b hb => ?_⟩
  · exact ⟨alu64K_eq hd ha (aluDiv_eq_ite _ _), alu32K_eq hd ha (aluDiv_eq_ite _ _),
      alu64K_eq hd ha (aluMod_eq_ite _ _), alu32K_eq hd ha (aluMod_eq_ite _ _)⟩
  · exact ⟨alu64X_eq hd ha hb (aluDiv_eq_ite _ _), alu32X_eq hd ha hb (aluDiv_eq_ite _ _),
      alu64X_eq hd ha hb (aluMod_eq_ite _ _), alu32X_eq hd ha hb (aluMod_eq_ite _ _)⟩

/-- Settles O30: the model's signed operations are the truncated ones of the statement. -/
theorem signedDivisionAndModuloResults : Obligations.SignedDivisionAndModuloResults := by
  unfold Obligations.SignedDivisionAndModuloResults
  refine ⟨by decide, by decide, by decide, by decide, fun s s1 d a hd ha => ⟨fun k => ?_, fun r s2 b hb => ?_⟩⟩
  · exact ⟨alu64K_eq hd ha rfl, alu32K_eq hd ha rfl, alu64K_eq hd ha rfl, alu32K_eq hd ha rfl⟩
  · exact ⟨alu64X_eq hd ha hb rfl, alu32X_eq hd ha hb rfl, alu64X_eq hd ha hb rfl, alu32X_eq hd ha hb rfl⟩

/-! ### NEG, MOV, MOVSX (R113, R117, R118) -/

/-- Settles O31. -/
theorem negAndMovResults : Obligations.NegAndMovResults := by
  unfold Obligations.NegAndMovResults
  intro s s1 d hd
  refine ⟨fun a ha => ⟨?neg64, ?neg32⟩, fun k => ⟨?mov64K, ?mov32K⟩, fun r b hb => ⟨?mov64X, ?mov32X⟩⟩
  case neg64 => exact aluUnary64_eq hd ha (BitVec.zero_sub a)
  case neg32 => exact aluUnary_eq hd ha (congrArg (BitVec.setWidth 64) (BitVec.zero_sub _))
  case mov64K => exact movK_eq hd (BitVec.setWidth_eq _)
  case mov32K => exact movK_eq hd (congrArg (BitVec.setWidth 64) (BitVec.signExtend_eq k))
  case mov64X => exact movX_eq hd hb (by rw [BitVec.setWidth_eq, BitVec.setWidth_eq])
  case mov32X => exact movX_eq hd hb rfl

/-- Settles O32. -/
theorem signExtendingMoveResults : Obligations.SignExtendingMoveResults := by
  unfold Obligations.SignExtendingMoveResults
  intro s s1 d r b hd hb
  have to64 (n : Nat) : movsx n 64 d r s = .next (s1.wrote d ((b.setWidth n).signExtend 64) 1) :=
    movsx_eq hd hb (BitVec.setWidth_eq _)
  exact ⟨to64 8, to64 16, to64 32, movsx_eq hd hb rfl, movsx_eq hd hb rfl⟩

/-! ### Byte swaps (R141 to R143) -/

/-- Settles O34: the byte order of the machine chooses between the swap and the identity. -/
theorem byteSwapResults : Obligations.ByteSwapResults := by
  unfold Obligations.ByteSwapResults
  intro s s1 d a hd ha
  have narrow {w : Nat} {f : BitVec w → BitVec w} :
      aluUnary w f d s = .next (s1.wrote d ((f (a.setWidth w)).setWidth 64) 1) :=
    aluUnary_eq hd ha rfl
  have full {f : Word → Word} : aluUnary 64 f d s = .next (s1.wrote d (f a) 1) := aluUnary64_eq hd ha rfl
  refine ⟨narrow, narrow, full, fun little => ?_, fun big => ?_⟩
  case refine_1 =>
    simp only [exec, execToLe16, execToLe32, execToLe64, execToBe16, execToBe32, execToBe64, little]
    exact ⟨narrow, narrow, full, narrow, narrow, full⟩
  case refine_2 =>
    simp only [exec, execToLe16, execToLe32, execToLe64, execToBe16, execToBe32, execToBe64, big]
    exact ⟨narrow, narrow, full, narrow, narrow, full⟩

/-! ### Conditional jumps (R150, R154 to R164) -/

theorem branch_eq {P : Prop} [Decidable P] {taken : Bool} (h : taken = decide P) (o : BitVec 16) (s : State) :
    branch taken o s = .next { s with pc := if P then s.pc + 1 + o.toInt else s.pc + 1 } := by
  subst h
  by_cases hP : P
  · simp [branch, hP, State.goto, jumpTarget]
  · simp [branch, hP, State.advance]

section
variable {d r : Reg} {s s1 s2 : State} {a b : Word} {o : BitVec 16} {k : BitVec 32} {P : Prop} [Decidable P]

theorem jump64K_eq {c : Word → Word → Bool} (ha : s.readReg d = some (a, s1)) (hc : c a (k.signExtend 64) = decide P) :
    jumpK 64 c d o k s = .next { s1 with pc := if P then s.pc + 1 + o.toInt else s.pc + 1 } := by
  rw [← BitVec.setWidth_eq a] at hc
  rw [← State.readReg_pc ha]
  exact (withReg_eq ha).trans (branch_eq hc o s1)

theorem jump32K_eq {c : BitVec 32 → BitVec 32 → Bool} (ha : s.readReg d = some (a, s1))
    (hc : c (a.setWidth 32) k = decide P) :
    jumpK 32 c d o k s = .next { s1 with pc := if P then s.pc + 1 + o.toInt else s.pc + 1 } := by
  rw [← BitVec.signExtend_eq k] at hc
  rw [← State.readReg_pc ha]
  exact (withReg_eq ha).trans (branch_eq hc o s1)

theorem jumpX_eq {w : Nat} {c : BitVec w → BitVec w → Bool} (ha : s.readReg d = some (a, s1))
    (hb : s1.readReg r = some (b, s2)) (hc : c (a.setWidth w) (b.setWidth w) = decide P) :
    jumpX w c d r o s = .next { s2 with pc := if P then s.pc + 1 + o.toInt else s.pc + 1 } := by
  rw [← State.readReg_pc ha, ← State.readReg_pc hb]
  exact (withReg_eq ha).trans ((withReg_eq hb).trans (branch_eq hc o s2))

theorem jump64X_eq {c : Word → Word → Bool} (ha : s.readReg d = some (a, s1)) (hb : s1.readReg r = some (b, s2))
    (hc : c a b = decide P) :
    jumpX 64 c d r o s = .next { s2 with pc := if P then s.pc + 1 + o.toInt else s.pc + 1 } :=
  jumpX_eq ha hb (by rw [BitVec.setWidth_eq, BitVec.setWidth_eq, hc])

end

/-- Settles O37. -/
theorem equalityAndBitTestJumpResults : Obligations.EqualityAndBitTestJumpResults := by
  unfold Obligations.EqualityAndBitTestJumpResults
  intro s s1 d a o ha
  refine ⟨fun k => ?_, fun r s2 b hb => ?_⟩
  · exact ⟨jump64K_eq ha rfl, jump32K_eq ha rfl, jump64K_eq ha rfl, jump32K_eq ha rfl, jump64K_eq ha rfl,
      jump32K_eq ha rfl⟩
  · exact ⟨jump64X_eq ha hb rfl, jumpX_eq ha hb rfl, jump64X_eq ha hb rfl, jumpX_eq ha hb rfl, jump64X_eq ha hb rfl,
      jumpX_eq ha hb rfl⟩

/-- Settles O38: the order of bit vectors is that of their unsigned numbers. -/
theorem unsignedJumpResults : Obligations.UnsignedJumpResults := by
  unfold Obligations.UnsignedJumpResults
  intro s s1 d a o ha
  refine ⟨fun k => ?_, fun r s2 b hb => ?_⟩
  · exact ⟨jump64K_eq ha rfl, jump32K_eq ha rfl, jump64K_eq ha rfl, jump32K_eq ha rfl, jump64K_eq ha rfl,
      jump32K_eq ha rfl, jump64K_eq ha rfl, jump32K_eq ha rfl⟩
  · exact ⟨jump64X_eq ha hb rfl, jumpX_eq ha hb rfl, jump64X_eq ha hb rfl, jumpX_eq ha hb rfl, jump64X_eq ha hb rfl,
      jumpX_eq ha hb rfl, jump64X_eq ha hb rfl, jumpX_eq ha hb rfl⟩

/-- Settles O39. -/
theorem signedJumpResults : Obligations.SignedJumpResults := by
  unfold Obligations.SignedJumpResults
  intro s s1 d a o ha
  refine ⟨fun k => ?_, fun r s2 b hb => ?_⟩
  · exact ⟨jump64K_eq ha rfl, jump32K_eq ha rfl, jump64K_eq ha rfl, jump32K_eq ha rfl, jump64K_eq ha rfl,
      jump32K_eq ha rfl, jump64K_eq ha rfl, jump32K_eq ha rfl⟩
  · exact ⟨jump64X_eq ha hb rfl, jumpX_eq ha hb rfl, jump64X_eq ha hb rfl, jumpX_eq ha hb rfl, jump64X_eq ha hb rfl,
      jumpX_eq ha hb rfl, jump64X_eq ha hb rfl, jumpX_eq ha hb rfl⟩

/-- Settles O36: the arms of the two jumps in the model. -/
theorem unconditionalJumpResults : Obligations.UnconditionalJumpResults := by
  unfold Obligations.UnconditionalJumpResults
  exact fun s o k => ⟨rfl, rfl⟩

end Sys2Proof.ResultProofs

/-! The results of calls, exit and platform lookups (42_jump.md section 4; 45_imm64_legacy.md). -/

namespace Sys2Proof.CallProofs

open Sys2Proof.Machine

/-! ### Helper calls (R171, R173) -/

section
variable {known : List (BitVec 32)} {id : BitVec 32} {key : HelperKey} {s : State}

theorem helperCall_unknown (h : known.contains id = false) : helperCall known id key s = .fault (.unknownHelper id) :=
  if_neg (Bool.eq_false_iff.mp h)

theorem helperCall_queued {a : HelperAnswer} {rest : List HelperAnswer} (h : known.contains id = true)
    (hq : s.helperQueue = a :: rest) :
    helperCall known id key s = .next (finishHelper a { s with helperQueue := rest }) := by
  have answer : takeAnswer (callOf key s) s = (a, { s with helperQueue := rest }) := by
    unfold takeAnswer
    rw [hq]
  unfold helperCall
  rw [if_pos h, answer]

theorem helperCall_free (h : known.contains id = true) (hq : s.helperQueue = []) :
    helperCall known id key s =
      .next (finishHelper (Config.helperAnswer (callOf key s) s.draws) { s with draws := s.draws + 1 }) := by
  have answer :
      takeAnswer (callOf key s) s = (Config.helperAnswer (callOf key s) s.draws, { s with draws := s.draws + 1 }) := by
    unfold takeAnswer
    rw [hq]
  unfold helperCall
  rw [if_pos h, answer]

end

/-- Settles O40: by number and by BTF ID it is one call, with the platform's list for each. -/
theorem helperCallResults : Obligations.HelperCallResults := by
  unfold Obligations.HelperCallResults
  intro s k
  refine ⟨fun h => ⟨fun a rest hq => ?_, fun hq => ⟨_, rfl, ?_⟩⟩,
    fun h => ⟨fun a rest hq => ?_, fun hq => ⟨_, rfl, ?_⟩⟩,
    helperCall_unknown, helperCall_unknown⟩
  · exact helperCall_queued h hq
  · exact helperCall_free h hq
  · exact helperCall_queued h hq
  · exact helperCall_free h hq

/-! ### Program-local calls and exit (R172, R174) -/

/-- Settles O41: the two branches of the test for room on the call stack. -/
theorem localCallResult : Obligations.LocalCallResult := by
  unfold Obligations.LocalCallResult
  exact fun s k => ⟨fun room => if_neg (Nat.not_le.mpr room), fun full => if_pos full⟩

/-- Settles O42: the two branches of the test for the outermost level. -/
theorem exitResults : Obligations.ExitResults := by
  unfold Obligations.ExitResults
  refine fun s => ⟨fun v s1 outermost hr => ?_, fun f rest inner => ?_⟩
  case refine_1 =>
    simp only [exec, execExit, exitProgram, outermost]
    exact withReg_eq hr
  case refine_2 =>
    simp only [exec, execExit, exitProgram, inner]
    rfl

/-- Settles O43: the exit finds the frame that the call pushed. -/
theorem callThenExitReturnsToTheCaller : Obligations.CallThenExitReturnsToTheCaller := by
  unfold Obligations.CallThenExitReturnsToTheCaller
  intro s t u k hcall hcs
  obtain ⟨-, rfl⟩ := localCall_next hcall
  obtain ⟨-, inner⟩ := exitResults u
  exact ⟨_, inner (frameOf s) s.cs hcs, rfl, rfl, rfl, rfl, rfl, rfl, rfl, rfl, rfl, rfl⟩

/-! ### Platform lookups (R222 to R227) -/

section
variable {d : Reg} {s : State} {l : Lookup} {v m : Word} {n : BitVec 32} (hd : d ≠ .r10)
include hd

theorem loadAddr_some : loadAddr d (some v) l s = .next (s.wrote d v 2) := guardDst_eq hd

theorem loadAddr_none : loadAddr d none l s = .fault (.platformLookupFailed l) := guardDst_eq hd

/-- With bit 31 of `next_imm` clear a map-value instruction is the lookups of the map and of its value. -/
theorem loadMapValue_eq (o : Option Word) (hn : n.toNat < 2 ^ 31) :
    loadMapValue d o l n s =
      withLookup o l fun m => withLookup (s.plat.mapVal.lookup m) (.mapVal m) fun v =>
        writeWide d (v + n.setWidth 64) s := by
  have clear : ¬ n.msb = true := by
    rw [BitVec.msb_eq_decide, decide_eq_true_eq]
    exact Nat.not_le.mpr hn
  exact (guardDst_eq hd).trans (if_neg clear)

theorem loadMapValue_some (hn : n.toNat < 2 ^ 31) (hv : s.plat.mapVal.lookup m = some v) :
    loadMapValue d (some m) l n s = .next (s.wrote d (v + n.setWidth 64) 2) := by
  rw [loadMapValue_eq hd _ hn]
  simp only [withLookup, hv]
  rfl

theorem loadMapValue_noValue (hn : n.toNat < 2 ^ 31) (hv : s.plat.mapVal.lookup m = none) :
    loadMapValue d (some m) l n s = .fault (.platformLookupFailed (.mapVal m)) := by
  rw [loadMapValue_eq hd _ hn]
  simp only [withLookup, hv]
  rfl

theorem loadMapValue_noMap (hn : n.toNat < 2 ^ 31) :
    loadMapValue d none l n s = .fault (.platformLookupFailed l) :=
  loadMapValue_eq hd none hn

end

/-- Settles O58: the four instructions are one form, each with its own lookup. -/
theorem platformAddressResults : Obligations.PlatformAddressResults := by
  unfold Obligations.PlatformAddressResults
  intro s d k hd
  have found {o : Option Word} {l : Lookup} {v : Word} (h : o = some v) : loadAddr d o l s = .next (s.wrote d v 2) :=
    h ▸ loadAddr_some hd
  have missing {o : Option Word} {l : Lookup} (h : o = none) : loadAddr d o l s = .fault (.platformLookupFailed l) :=
    h ▸ loadAddr_none hd
  exact ⟨fun _ => found, fun _ => found, fun _ => found, fun _ => found, missing, missing, missing, missing⟩

/-- Settles O59: the two instructions are one form, each with its own lookup of the map. -/
theorem mapValueAddressResults : Obligations.MapValueAddressResults := by
  unfold Obligations.MapValueAddressResults
  intro s d k n m hd hn
  refine ⟨fun v hv => ?value, fun hv => ?noValue, ?noMap⟩
  case value =>
    have found {o : Option Word} {l : Lookup} (h : o = some m) :
        loadMapValue d o l n s = .next (s.wrote d (v + n.setWidth 64) 2) := h ▸ loadMapValue_some hd hn hv
    exact ⟨found, found⟩
  case noValue =>
    have missing {o : Option Word} {l : Lookup} (h : o = some m) :
        loadMapValue d o l n s = .fault (.platformLookupFailed (.mapVal m)) := h ▸ loadMapValue_noValue hd hn hv
    exact ⟨missing, missing⟩
  case noMap =>
    have missing {o : Option Word} {l : Lookup} (h : o = none) :
        loadMapValue d o l n s = .fault (.platformLookupFailed l) := h ▸ loadMapValue_noMap hd hn
    exact ⟨missing, missing⟩

/-- Settles O60: the arms of the eight instructions in the model. -/
theorem legacyInstructionsStop : Obligations.LegacyInstructionsStop := by
  unfold Obligations.LegacyInstructionsStop
  exact fun s d r o k => ⟨rfl, rfl, rfl, rfl, rfl, rfl, rfl, rfl⟩

end Sys2Proof.CallProofs

/-! The byte order of data memory and of the byte swaps (20_memory.md R40, R41; 00_scope.md R11). -/

namespace Sys2Proof.MemoryProofs

open Sys2Proof.Machine

/-! ### Digits to the base 256 -/

/-- Digit `j` of the number of a list of bytes is byte `j`. -/
theorem natOfBytes_digit (bs : List Byte) (j : Nat) : natOfBytes bs / 256 ^ j % 256 = (bs.getD j 0).toNat := by
  induction bs generalizing j with
  | nil => simp [natOfBytes]
  | cons b bs ih =>
    have hb := b.isLt
    cases j with
    | zero =>
      simp only [natOfBytes, Nat.pow_zero, Nat.div_one, List.getD_cons_zero]
      omega
    | succ j =>
      have rest : (b.toNat + 256 * natOfBytes bs) / 256 = natOfBytes bs := by omega
      rw [natOfBytes, Nat.pow_succ', ← Nat.div_div_eq_div_mul, rest, ih, List.getD_cons_succ]

/-- A number of `n` digits is determined by them. -/
theorem eq_of_digits {n x y : Nat} (hx : x < 256 ^ n) (hy : y < 256 ^ n)
    (h : ∀ j < n, x / 256 ^ j % 256 = y / 256 ^ j % 256) : x = y := by
  induction n generalizing x y with
  | zero => omega
  | succ n ih =>
    have low : x % 256 = y % 256 := by simpa using h 0 (Nat.succ_pos n)
    have high : x / 256 = y / 256 := by
      refine ih (by rw [Nat.pow_succ] at hx; omega) (by rw [Nat.pow_succ] at hy; omega) fun j hj => ?_
      rw [Nat.div_div_eq_div_mul, Nat.div_div_eq_div_mul, ← Nat.pow_succ']
      exact h (j + 1) (Nat.succ_lt_succ hj)
    omega

/-- Reduction to `n` digits keeps the digits below `n`. -/
theorem digit_mod {n j : Nat} (x : Nat) (hj : j < n) : x % 256 ^ n / 256 ^ j % 256 = x / 256 ^ j % 256 := by
  have split : 256 ^ n = 256 ^ j * 256 ^ (n - j) := by rw [← Nat.pow_add, Nat.add_sub_cancel' hj.le]
  rw [split, Nat.mod_mul_right_div_self]
  exact Nat.mod_mod_of_dvd _ (Dvd.intro_left (256 ^ (n - j - 1)) (by rw [← Nat.pow_succ]; congr 1; omega))

/-! ### Where the digits of a number lie -/

/-- The distance from the address to byte `j` of a number of `n` bytes, byte 0 being the least significant. -/
def bytePos (e : Endian) (n j : Nat) : Nat :=
  match e with
  | .little => j
  | .big => n - 1 - j

theorem bytePos_lt (e : Endian) {n j : Nat} (hj : j < n) : bytePos e n j < n := by
  cases e <;> simp only [bytePos] <;> omega

theorem bytePos_bytePos (e : Endian) {n j : Nat} (hj : j < n) : bytePos e n (bytePos e n j) = j := by
  cases e <;> simp only [bytePos]
  omega

theorem getD_inOrder (e : Endian) {bs : List Byte} {j : Nat} (hj : j < bs.length) :
    (inOrder e bs).getD j 0 = bs.getD (bytePos e bs.length j) 0 := by
  cases e
  case little => rfl
  case big => simp only [inOrder, bytePos, List.getD_eq_getElem?_getD, List.getElem?_reverse hj]

theorem getD_readBytes (m : Memory) (a : Nat) {n j : Nat} (hj : j < n) :
    (readBytes m a n).getD j 0 = readByte m (a + j) := by
  induction n generalizing a j with
  | zero => cases hj
  | succ n ih =>
    cases j with
    | zero => rfl
    | succ j =>
      rw [readBytes, List.getD_cons_succ, ih _ (Nat.lt_of_succ_lt_succ hj)]
      congr 1
      omega

theorem getD_bytesOfNat (v : Nat) {n j : Nat} (hj : j < n) :
    (bytesOfNat n v).getD j 0 = BitVec.ofNat 8 (v / 256 ^ j) := by
  induction n generalizing v j with
  | zero => cases hj
  | succ n ih =>
    cases j with
    | zero => simp [bytesOfNat]
    | succ j =>
      rw [bytesOfNat, List.getD_cons_succ, ih _ (Nat.lt_of_succ_lt_succ hj), Nat.div_div_eq_div_mul, ← Nat.pow_succ']

theorem readByte_writeBytes (m : Memory) (a : Nat) {bs : List Byte} {j : Nat} (hj : j < bs.length) :
    readByte (writeBytes m a bs) (a + j) = bs.getD j 0 := by
  rw [← getD_readBytes _ _ hj, readBytes_writeBytes]

theorem memRead_digit (e : Endian) (m : Memory) (ea : Word) {n j : Nat} (hj : j < n) :
    memRead e m ea n / 256 ^ j % 256 = (readByte m (ea.toNat + bytePos e n j)).toNat := by
  rw [memRead, natOfBytes_digit, getD_inOrder e (by simpa using hj), length_readBytes,
    getD_readBytes _ _ (bytePos_lt e hj)]

theorem readByte_memWrite (e : Endian) (m : Memory) (ea : Word) (v : Nat) {n j : Nat} (hj : j < n) :
    (readByte (memWrite e m ea n v) (ea.toNat + bytePos e n j)).toNat = v / 256 ^ j % 256 := by
  have hpos := bytePos_lt e hj
  rw [memWrite, readByte_writeBytes _ _ (by simpa using hpos), getD_inOrder e (by simpa using hpos),
    length_bytesOfNat, bytePos_bytePos e hj, getD_bytesOfNat _ hj, BitVec.toNat_ofNat]

theorem memRead_lt (e : Endian) (m : Memory) (ea : Word) (n : Nat) : memRead e m ea n < 256 ^ n := by
  have h := natOfBytes_lt (inOrder e (readBytes m ea.toNat n))
  rwa [length_inOrder, length_readBytes] at h

/-- Settles O48. -/
theorem memoryByteOrder : Obligations.MemoryByteOrder := by
  unfold Obligations.MemoryByteOrder
  intro e m ea n v j x
  refine ⟨memRead_lt e m ea n, fun hj => ⟨_, rfl, ?_⟩, fun hx => readByte_memWrite_ne e m ea n v ?_⟩
  case refine_1 => exact ⟨memRead_digit e m ea hj, readByte_memWrite e m ea v hj⟩
  case refine_2 =>
    unfold inAccess at hx
    omega

/-- A read inside a stored number, of the bytes that hold its digits from `base` on, gives these digits. -/
theorem memRead_inside_memWrite {e : Endian} {m : Memory} {ea ea' : Word} {N n base v : Nat} (fits : base + n ≤ N)
    (addr : ∀ j < n, ea'.toNat + bytePos e n j = ea.toNat + bytePos e N (base + j)) :
    memRead e (memWrite e m ea N v) ea' n = v / 256 ^ base % 256 ^ n := by
  refine eq_of_digits (memRead_lt _ _ _ _) (Nat.mod_lt _ (Nat.pow_pos (by decide))) fun j hj => ?_
  rw [memRead_digit _ _ _ hj, addr j hj, readByte_memWrite _ _ _ _ (by omega), digit_mod _ hj,
    Nat.div_div_eq_div_mul, ← Nat.pow_add]

/-- Settles O50: the digits from 0 or 4 on in little-endian, from 7, 6 or 0 on in big-endian. -/
theorem narrowReadsOfAWideStore : Obligations.NarrowReadsOfAWideStore := by
  unfold Obligations.NarrowReadsOfAWideStore
  intro m ea v hv top
  have upper : (ea + 4#64).toNat = ea.toNat + 4 := by
    rw [BitVec.toNat_add]
    exact Nat.mod_eq_of_lt (by simp only [BitVec.toNat_ofNat]; omega)
  have little {ea' : Word} {n : Nat} (base : Nat) (fits : base + n ≤ 8) (addr : ea'.toNat = ea.toNat + base) :
      memRead .little (memWrite .little m ea 8 v) ea' n = v / 256 ^ base % 256 ^ n :=
    memRead_inside_memWrite fits fun j _ => by simp only [bytePos]; omega
  have big {ea' : Word} {n : Nat} (base : Nat) (fits : base + n ≤ 8) (addr : ea'.toNat + n + base = ea.toNat + 8) :
      memRead .big (memWrite .big m ea 8 v) ea' n = v / 256 ^ base % 256 ^ n :=
    memRead_inside_memWrite fits fun j _ => by simp only [bytePos]; omega
  refine ⟨⟨?byte, ?half, ?word⟩, ?byteBig, ?halfBig, ?wordBig⟩
  case byte => exact (little 0 (by decide) rfl).trans (by omega)
  case half => exact (little 0 (by decide) rfl).trans (by omega)
  case word => exact (little 4 (by decide) upper).trans (by omega)
  case byteBig => exact (big 7 (by decide) rfl).trans (by omega)
  case halfBig => exact (big 6 (by decide) rfl).trans (by omega)
  case wordBig => exact (big 0 (by decide) (by rw [upper])).trans (by omega)

/-! ### Byte swaps (00_scope.md R11) -/

theorem byte_append_low {w : Nat} (x : BitVec w) (b : Byte) : (x ++ b).extractLsb' 0 8 = b :=
  BitVec.extractLsb'_append_eq_right

theorem byte_append_high {w : Nat} (x : BitVec w) (b : Byte) (start : Nat) :
    (x ++ b).extractLsb' (start + 8) 8 = x.extractLsb' start 8 := by
  rw [BitVec.extractLsb'_append_eq_of_le (Nat.le_add_left 8 start), Nat.add_sub_cancel]

theorem byte_bswap64 (v : BitVec 64) {j : Nat} (hj : j < 8) :
    (bswap64 v).extractLsb' (8 * j) 8 = v.extractLsb' (8 * (7 - j)) 8 := by
  unfold bswap64
  interval_cases j <;> simp [byte_append_low, byte_append_high]

theorem byte_bswap32 (v : BitVec 32) {j : Nat} (hj : j < 4) :
    (bswap32 v).extractLsb' (8 * j) 8 = v.extractLsb' (8 * (3 - j)) 8 := by
  unfold bswap32
  interval_cases j <;> simp [byte_append_low, byte_append_high]

theorem byte_bswap16 (v : BitVec 16) {j : Nat} (hj : j < 2) :
    (bswap16 v).extractLsb' (8 * j) 8 = v.extractLsb' (8 * (1 - j)) 8 := by
  unfold bswap16
  interval_cases j <;> simp [byte_append_low, byte_append_high]

/-- A number of `n` bytes is determined by them. -/
theorem eq_of_bytes {n : Nat} {v u : BitVec (8 * n)} (h : ∀ j < n, v.extractLsb' (8 * j) 8 = u.extractLsb' (8 * j) 8) :
    v = u := by
  apply BitVec.eq_of_getLsbD_eq
  intro i hi
  have bit := congrArg (·.getLsbD (i % 8)) (h (i / 8) (by omega))
  simpa [Nat.mod_lt, Nat.div_add_mod] using bit

/-- Settles O35: byte `j` is moved to `n - 1 - j`, and so back again. -/
theorem byteSwapReversesBytes : Obligations.ByteSwapReversesBytes := by
  unfold Obligations.ByteSwapReversesBytes
  refine ⟨fun v j => byte_bswap16 v, fun v j => byte_bswap32 v, fun v j => byte_bswap64 v, fun v => ?_, fun v => ?_,
    fun v => ?_⟩
  · refine eq_of_bytes (n := 2) fun j hj => ?_
    rw [byte_bswap16 _ hj, byte_bswap16 _ (by omega), Nat.sub_sub_self (by omega)]
  · refine eq_of_bytes (n := 4) fun j hj => ?_
    rw [byte_bswap32 _ hj, byte_bswap32 _ (by omega), Nat.sub_sub_self (by omega)]
  · refine eq_of_bytes (n := 8) fun j hj => ?_
    rw [byte_bswap64 _ hj, byte_bswap64 _ (by omega), Nat.sub_sub_self (by omega)]

end Sys2Proof.MemoryProofs

/-! The results of loads, stores and atomic operations (43_load_store.md, 44_atomic.md). -/

namespace Sys2Proof.AccessProofs

open Sys2Proof.Machine Sys2Proof.FormProofs Sys2Proof.MemoryProofs

/-! ### The forms of accesses, with what they write -/

section
variable {w : Nat} {d r : Reg} {o : BitVec 16} {s s1 s2 s3 : State} {a b c ea v : Word}

theorem loadX_eq {ext : BitVec w → Word} (hd : d ≠ .r10) (hb : s.readReg r = some (b, s1))
    (hea : ea = b + o.signExtend 64)
    (ok : s.accessOk s.plat.strictAlign ea (w / 8) .read) (hv : ext (BitVec.ofNat w (s.load ea (w / 8))) = v) :
    loadX w ext d r o s = .next (s1.wrote d v 1) := by
  subst hea hv
  obtain ⟨k, rfl⟩ := readReg_drawn hb
  exact (guardDst_eq hd).trans ((withReg_eq hb).trans (checkAccess_eq ok.1 ok.2))

theorem storeK_eq {k : BitVec 32} {v : Nat} (ha : s.readReg d = some (a, s1)) (hea : ea = a + o.signExtend 64)
    (ok : s.accessOk s.plat.strictAlign ea (w / 8) .write) (hv : ((k.signExtend 64).setWidth w).toNat = v) :
    storeK w d o k s = .next (s1.stored ea (w / 8) v) := by
  subst hea hv
  obtain ⟨k, rfl⟩ := readReg_drawn ha
  exact (withReg_eq ha).trans (checkAccess_eq ok.1 ok.2)

theorem storeX_eq {v : Nat} (ha : s.readReg d = some (a, s1)) (hb : s1.readReg r = some (b, s2))
    (hea : ea = a + o.signExtend 64) (ok : s.accessOk s.plat.strictAlign ea (w / 8) .write)
    (hv : (b.setWidth w).toNat = v) : storeX w d r o s = .next (s2.stored ea (w / 8) v) := by
  subst hea hv
  obtain ⟨k, rfl⟩ := readReg_readReg_drawn ha hb
  exact (withReg_eq ha).trans ((withReg_eq hb).trans (checkAccess_eq ok.1 ok.2))

variable {f : BitVec w → BitVec w → BitVec w} {old x : BitVec w}

theorem atomicSimple_eq (ha : s.readReg d = some (a, s1)) (hb : s1.readReg r = some (b, s2))
    (hea : ea = a + o.signExtend 64) (ok : s.accessOk true ea (w / 8) .atomic)
    (hold : old = BitVec.ofNat w (s.load ea (w / 8))) (hx : f old (b.setWidth w) = x) :
    atomicSimple w f d r o s = .next (s2.stored ea (w / 8) x.toNat) := by
  subst hea hold hx
  obtain ⟨k, rfl⟩ := readReg_readReg_drawn ha hb
  exact (withReg_eq ha).trans ((withReg_eq hb).trans (checkAccess_eq ok.1 ok.2))

theorem atomicFetch_eq (hr : r ≠ .r10) (ha : s.readReg d = some (a, s1)) (hb : s1.readReg r = some (b, s2))
    (hea : ea = a + o.signExtend 64) (ok : s.accessOk true ea (w / 8) .atomic)
    (hold : old = BitVec.ofNat w (s.load ea (w / 8))) (hx : f old (b.setWidth w) = x) (hv : old.setWidth 64 = v) :
    atomicFetch w f d r o s = .next ((s2.stored ea (w / 8) x.toNat).setReg r (.word v)) := by
  subst hea hv hold hx
  obtain ⟨k, rfl⟩ := readReg_readReg_drawn ha hb
  exact (guardDst_eq hr).trans ((withReg_eq ha).trans ((withReg_eq hb).trans (checkAccess_eq ok.1 ok.2)))

theorem atomicCmpxchg_eq (ha : s.readReg d = some (a, s1)) (hb : s1.readReg r = some (b, s2))
    (hc : s2.readReg .r0 = some (c, s3)) (hea : ea = a + o.signExtend 64) (ok : s.accessOk true ea (w / 8) .atomic)
    (hold : old = BitVec.ofNat w (s.load ea (w / 8))) (hx : b.setWidth w = x) (hv : old.setWidth 64 = v) :
    atomicCmpxchg w d r o s =
      if old = c.setWidth w then .next ((s3.stored ea (w / 8) x.toNat).setReg .r0 (.word v))
      else .next (s3.wrote .r0 v 1) := by
  subst hea hv hold hx
  obtain ⟨j, rfl⟩ := readReg_readReg_drawn ha hb
  obtain ⟨k, rfl⟩ := readReg_drawn hc
  exact (withReg_eq ha).trans ((withReg_eq hb).trans ((withReg_eq hc).trans ((checkAccess_eq ok.1 ok.2).trans
    (apply_ite (fun u : State => (.next ((u.setReg .r0 (.word _)).advance 1) : Result)) _ _ _))))

end

/-! ### Loads (R181 to R184, R192 to R194) -/

/-- A number of `n` bytes is the same in `8 n` bits and in 64. -/
theorem zext64_load (s : State) (ea : Word) (n : Nat) :
    zext64 (BitVec.ofNat (8 * n) (s.load ea n)) = BitVec.ofNat 64 (s.load ea n) := by
  have lt : s.load ea n < 2 ^ (8 * n) := by
    rw [Nat.pow_mul]
    exact memRead_lt _ _ _ _
  apply BitVec.eq_of_toNat_eq
  simp only [zext64, BitVec.toNat_setWidth, BitVec.toNat_ofNat, Nat.mod_eq_of_lt lt]

/-- Settles O44. -/
theorem loadResults : Obligations.LoadResults := by
  unfold Obligations.LoadResults
  intro s s1 d r o b ea hd hb hea
  exact ⟨fun ok => loadX_eq hd hb hea ok (zext64_load s ea 4),
    fun ok => loadX_eq hd hb hea ok (zext64_load s ea 2),
    fun ok => loadX_eq hd hb hea ok (zext64_load s ea 1),
    fun ok => loadX_eq hd hb hea ok (zext64_load s ea 8)⟩

/-- Settles O45. -/
theorem signExtendingLoadResults : Obligations.SignExtendingLoadResults := by
  unfold Obligations.SignExtendingLoadResults
  intro s s1 d r o b ea hd hb hea
  exact ⟨fun ok => loadX_eq hd hb hea ok rfl, fun ok => loadX_eq hd hb hea ok rfl, fun ok => loadX_eq hd hb hea ok rfl⟩

/-! ### Stores (R185 to R191, R195) -/

/-- The low bits of `sext_64(imm)` up to 32 are those of `imm`. -/
theorem toNat_setWidth_signExtend {w : Nat} (hw : w ≤ 32) (k : BitVec 32) :
    ((k.signExtend 64).setWidth w).toNat = k.toNat % 2 ^ w := by
  have low : (k.signExtend 64).setWidth w = k.setWidth w := by
    apply BitVec.eq_of_getLsbD_eq
    intro i hi
    simp [BitVec.getElem_signExtend, hi, show i < 64 by omega, show i < 32 by omega]
  rw [low, BitVec.toNat_setWidth]

/-- Settles O46. -/
theorem immediateStoreResults : Obligations.ImmediateStoreResults := by
  unfold Obligations.ImmediateStoreResults
  intro s s1 d o k a ea ha hea
  refine ⟨fun ok => storeK_eq ha hea ok ?_, fun ok => storeK_eq ha hea ok ?_, fun ok => storeK_eq ha hea ok ?_,
    fun ok => storeK_eq ha hea ok ?_⟩
  case refine_1 => exact (toNat_setWidth_signExtend (by decide) k).trans (Nat.mod_eq_of_lt k.isLt)
  case refine_2 => exact toNat_setWidth_signExtend (by decide) k
  case refine_3 => exact toNat_setWidth_signExtend (by decide) k
  case refine_4 => rw [BitVec.setWidth_eq]

/-- Settles O47. -/
theorem registerStoreResults : Obligations.RegisterStoreResults := by
  unfold Obligations.RegisterStoreResults
  intro s s1 s2 d r o a b ea ha hb hea
  exact ⟨fun ok => storeX_eq ha hb hea ok (BitVec.toNat_setWidth _ _),
    fun ok => storeX_eq ha hb hea ok (BitVec.toNat_setWidth _ _),
    fun ok => storeX_eq ha hb hea ok (BitVec.toNat_setWidth _ _),
    fun ok => storeX_eq ha hb hea ok (by rw [BitVec.setWidth_eq])⟩

/-! ### A load after a store -/

/-- The store leaves the base register and the checks as they were, and the load reads what was stored. -/
theorem loadX_of_storeX {w n : Nat} {s t : State} {d r q : Reg} {o : BitVec 16} {a b ea v : Word} (hw : w = 8 * n)
    (ha : s.regs.get d = .word a) (hb : s.regs.get r = .word b) (hea : ea = a + o.signExtend 64) (hq : q ≠ .r10)
    (stored : storeX w d r o s = .next t) (readable : memAdmit s.plat ea n .read = true)
    (hv : (b.setWidth w).setWidth 64 = v) : loadX w zext64 q d o t = .next (t.wrote q v 1) := by
  have bytes : w / 8 = n := by omega
  obtain ⟨a', b', s1, s2, ha', hb', hstore⟩ := storeX_next stored
  cases (State.readReg_word ha).symm.trans ha'
  cases (State.readReg_word hb).symm.trans hb'
  obtain ⟨aligned, -, rfl⟩ := storeAt_next hstore
  subst hea
  refine loadX_eq hq (State.readReg_word ha) rfl ⟨aligned, bytes ▸ readable⟩ ?_
  have loaded :
      State.load ((s.setMem (memWrite s.plat.endian s.mem (effectiveAddress a o) (w / 8) (b.setWidth w).toNat)).advance 1)
      (a + o.signExtend 64) (w / 8) = (b.setWidth w).toNat := by
    refine (memRead_memWrite _ _ _ _ _).trans (Nat.mod_eq_of_lt ?_)
    rw [bytes, ← hw]
    exact BitVec.isLt _
  rw [loaded, BitVec.ofNat_toNat, BitVec.setWidth_eq, zext64, hv]

/-- Settles O49, width by width. -/
theorem loadAfterStoreReturnsTheStoredBits : Obligations.LoadAfterStoreReturnsTheStoredBits := by
  unfold Obligations.LoadAfterStoreReturnsTheStoredBits
  intro s t d r q o a b ea ha hb hea hq
  exact ⟨fun stored readable => loadX_of_storeX (n := 1) rfl ha hb hea hq stored readable rfl,
    fun stored readable => loadX_of_storeX (n := 2) rfl ha hb hea hq stored readable rfl,
    fun stored readable => loadX_of_storeX (n := 4) rfl ha hb hea hq stored readable rfl,
    fun stored readable => loadX_of_storeX (n := 8) rfl ha hb hea hq stored readable
      (by rw [BitVec.setWidth_eq, BitVec.setWidth_eq])⟩

/-! ### Atomic operations (R204 to R213) -/

/-- Settles O54. -/
theorem atomicWithoutFetchResults : Obligations.AtomicWithoutFetchResults := by
  unfold Obligations.AtomicWithoutFetchResults
  intro s s1 s2 d r o a b ea ha hb hea
  refine ⟨fun ok old b4 hold hb4 => ?_, fun ok old hold => ?_⟩
  case refine_1 =>
    subst hb4
    exact ⟨atomicSimple_eq ha hb hea ok hold rfl, atomicSimple_eq ha hb hea ok hold rfl,
      atomicSimple_eq ha hb hea ok hold rfl, atomicSimple_eq ha hb hea ok hold rfl⟩
  case refine_2 =>
    have whole {f : Word → Word → Word} : f old (b.setWidth 64) = f old b := by rw [BitVec.setWidth_eq]
    exact ⟨atomicSimple_eq ha hb hea ok hold whole, atomicSimple_eq ha hb hea ok hold whole,
      atomicSimple_eq ha hb hea ok hold whole, atomicSimple_eq ha hb hea ok hold whole⟩

/-- Settles O55. -/
theorem atomicFetchAndExchangeResults : Obligations.AtomicFetchAndExchangeResults := by
  unfold Obligations.AtomicFetchAndExchangeResults
  intro s s1 s2 d r o a b ea ha hb hea hr
  refine ⟨fun ok old b4 hold hb4 => ?_, fun ok old hold => ?_⟩
  case refine_1 =>
    subst hb4
    exact ⟨atomicFetch_eq hr ha hb hea ok hold rfl rfl, atomicFetch_eq hr ha hb hea ok hold rfl rfl,
      atomicFetch_eq hr ha hb hea ok hold rfl rfl, atomicFetch_eq hr ha hb hea ok hold rfl rfl,
      atomicFetch_eq hr ha hb hea ok hold rfl rfl⟩
  case refine_2 =>
    have whole {f : Word → Word → Word} : f old (b.setWidth 64) = f old b := by rw [BitVec.setWidth_eq]
    have oldWhole : old.setWidth 64 = old := BitVec.setWidth_eq old
    exact ⟨atomicFetch_eq hr ha hb hea ok hold whole oldWhole, atomicFetch_eq hr ha hb hea ok hold whole oldWhole,
      atomicFetch_eq hr ha hb hea ok hold whole oldWhole, atomicFetch_eq hr ha hb hea ok hold whole oldWhole,
      atomicFetch_eq hr ha hb hea ok hold whole oldWhole⟩

/-- Settles O56. -/
theorem compareAndExchangeResults : Obligations.CompareAndExchangeResults := by
  unfold Obligations.CompareAndExchangeResults
  intro s s1 s2 s3 d r o a b c ea ha hb hc hea
  refine ⟨fun ok old hold => atomicCmpxchg_eq ha hb hc hea ok hold rfl rfl, fun ok old hold => ?_⟩
  have exchange := atomicCmpxchg_eq ha hb hc hea ok hold (BitVec.setWidth_eq b) (BitVec.setWidth_eq old)
  rwa [BitVec.setWidth_eq] at exchange

end Sys2Proof.AccessProofs

/-! The round trip from the encoder (30_encoding.md R87): the decoder reads back what the encoder lays out. -/

namespace Sys2Proof.RoundTripProofs

open Sys2Proof.Machine Sys2Proof.EncodingProofs Sys2Proof.FaultProofs

/-! ### What the readers make of an encoding -/

/-- The first slot's checks pass, so the subtype reads the second slot (R66, R88). -/
theorem readWide_fields {op : BitVec 8} {d : Reg} {sub : BitVec 4} {imm : BitVec 32} (hd : d ≠ .r10)
    (hsub : sub.toNat ≤ 6) (next : Option Fields) :
    readWide ⟨op, d.toBits, sub, 0#16, imm⟩ next = readSubtype ⟨op, d.toBits, sub, 0#16, imm⟩ next d := by
  simp [readWide, hsub, unused, readDst_toBits hd, bind, Except.bind]

theorem readNextAddend_pseudoFields {n : BitVec 32} (hn : n.msb = false) :
    readNextAddend (some (pseudoFields n)) = .ok n := by
  simp [readNextAddend, hn, bind, Except.bind]

/-- A one-slot instruction stands for its fields if the decoder reads it from them, whatever follows. -/
theorem standsFor_oneSlot {f : Fields} {i : Instr} (enc : encodeParts i = (f, none))
    (dec : ∀ next, decodeFields f next = .ok i) : standsFor f none i :=
  ⟨enc, fun next _ => dec next⟩

theorem standsFor_twoSlots {f : Fields} {n : BitVec 32} {i : Instr} (enc : encodeParts i = (f, some n))
    (dec : decodeFields f (some (pseudoFields n)) = .ok i) : standsFor f (some n) i :=
  ⟨enc, fun _ h => h n rfl ▸ dec⟩

/-- A subtype of opcode 0x18 stands for its slots if it is read from the second one. -/
theorem standsFor_wide {d : Reg} {sub : BitVec 4} {imm n : BitVec 32} {i : Instr} (hd : d ≠ .r10)
    (hsub : sub.toNat ≤ 6) (enc : encodeParts i = (⟨0x18#8, d.toBits, sub, 0#16, imm⟩, some n))
    (dec : readSubtype ⟨0x18#8, d.toBits, sub, 0#16, imm⟩ (some (pseudoFields n)) d = .ok i) :
    standsFor ⟨0x18#8, d.toBits, sub, 0#16, imm⟩ (some n) i :=
  standsFor_twoSlots enc ((readWide_fields hd hsub _).trans dec)

/-- Loads, stores and atomic operations, by the rows of R75 to R77. -/
theorem standsFor_of_access {i : Instr} {a : Access} (access : accessOf i = some a) (wf : i.wellFormed = true) :
    standsFor (encodeParts i).1 (encodeParts i).2 i := by
  cases i
  case ldxW | ldxH | ldxB | ldxDW | ldxsW | ldxsH | ldxsB =>
    exact standsFor_oneSlot rfl fun _ => LoadOpcode.accepts (by constructor) (ne_r10_of_bne wf)
  case stW | stH | stB | stDW => exact standsFor_oneSlot rfl fun _ => StoreKOpcode.accepts (by constructor)
  case stxW | stxH | stxB | stxDW => exact standsFor_oneSlot rfl fun _ => StoreXOpcode.accepts (by constructor)
  case atomicAdd32 | atomicOr32 | atomicAnd32 | atomicXor32 | cmpxchg32 =>
    exact standsFor_oneSlot rfl fun _ => AtomicOpcode.w.accepts_noFetch rfl
  case atomicAdd64 | atomicOr64 | atomicAnd64 | atomicXor64 | cmpxchg64 =>
    exact standsFor_oneSlot rfl fun _ => AtomicOpcode.dw.accepts_noFetch rfl
  case fetchAdd32 | fetchOr32 | fetchAnd32 | fetchXor32 | xchg32 =>
    exact standsFor_oneSlot rfl fun _ => AtomicOpcode.w.accepts_fetch (ne_r10_of_bne wf) rfl
  case fetchAdd64 | fetchOr64 | fetchAnd64 | fetchXor64 | xchg64 =>
    exact standsFor_oneSlot rfl fun _ => AtomicOpcode.dw.accepts_fetch (ne_r10_of_bne wf) rfl
  all_goals cases access

/-- The other instructions that write a register of their own: the arithmetic of R70 and R71 and the subtypes of opcode
0x18. -/
theorem standsFor_of_write {i : Instr} {d : Reg} (access : accessOf i = none) (writes : writesOf i = [d])
    (wf : i.wellFormed = true) : standsFor (encodeParts i).1 (encodeParts i).2 i := by
  cases i
  case add64K | sub64K | mul64K | div64K | sdiv64K | or64K | and64K | lsh64K | rsh64K | mod64K | smod64K | xor64K
      | arsh64K | mov64K | add32K | sub32K | mul32K | div32K | sdiv32K | or32K | and32K | lsh32K | rsh32K | mod32K
      | smod32K | xor32K | arsh32K | mov32K =>
    exact standsFor_oneSlot rfl fun _ => readAluK_fields (ne_r10_of_bne wf) _ _
  case add64X | sub64X | mul64X | div64X | sdiv64X | or64X | and64X | lsh64X | rsh64X | mod64X | smod64X | xor64X
      | arsh64X | mov64X | add32X | sub32X | mul32X | div32X | sdiv32X | or32X | and32X | lsh32X | rsh32X | mod32X
      | smod32X | xor32X | arsh32X | mov32X | movsx8to64 | movsx16to64 | movsx32to64 | movsx8to32 | movsx16to32 =>
    exact standsFor_oneSlot rfl fun _ => readAluX_fields (ne_r10_of_bne wf) _ _
  case neg64 | neg32 | toLe16 | toLe32 | toLe64 | toBe16 | toBe32 | toBe64 | bswap16 | bswap32 | bswap64 =>
    exact standsFor_oneSlot rfl fun _ => readUnary_fields (ne_r10_of_bne wf) _
  case ldImm64 | ldMapFd | ldVarAddr | ldCodeAddr | ldMapIdx =>
    exact standsFor_wide (ne_r10_of_bne wf) (by decide) rfl rfl
  case ldMapFdVal | ldMapIdxVal =>
    obtain ⟨hd, hn⟩ := Bool.and_eq_true_iff.mp wf
    exact standsFor_wide (ne_r10_of_bne hd) (by decide) rfl
      (by simp [readSubtype, readNextAddend_pseudoFields (Bool.not_eq_eq_eq_not.mp hn), bind, Except.bind])
  all_goals exact nomatch access, writes

/-- Jumps, calls, exit and the legacy instructions. -/
theorem standsFor_of_no_write {i : Instr} (access : accessOf i = none) (writes : ∀ d, writesOf i ≠ [d]) :
    standsFor (encodeParts i).1 (encodeParts i).2 i := by
  cases i
  case ja | ja32 | callHelper | callLocal | callBtf | exit | ldAbsW | ldAbsH | ldAbsB | ldAbsDW | ldIndW | ldIndH
      | ldIndB | ldIndDW =>
    exact standsFor_oneSlot rfl fun _ => rfl
  case jeq64K | jgt64K | jge64K | jset64K | jne64K | jsgt64K | jsge64K | jlt64K | jle64K | jslt64K | jsle64K | jeq32K
      | jgt32K | jge32K | jset32K | jne32K | jsgt32K | jsge32K | jlt32K | jle32K | jslt32K | jsle32K =>
    exact standsFor_oneSlot rfl fun _ => readJumpK_fields _ _ _ _ _
  case jeq64X | jgt64X | jge64X | jset64X | jne64X | jsgt64X | jsge64X | jlt64X | jle64X | jslt64X | jsle64X | jeq32X
      | jgt32X | jge32X | jset32X | jne32X | jsgt32X | jsge32X | jlt32X | jle32X | jslt32X | jsle32X =>
    exact standsFor_oneSlot rfl fun _ => readJumpX_fields _ _ _ _ _
  case stW | stH | stB | stDW | stxW | stxH | stxB | stxDW | atomicAdd32 | atomicOr32 | atomicAnd32 | atomicXor32
      | atomicAdd64 | atomicOr64 | atomicAnd64 | atomicXor64 =>
    cases access
  all_goals exact absurd rfl (writes _)

/-- Every well-formed instruction stands for the fields the encoder gives. -/
theorem standsFor_encodeParts (i : Instr) (wf : i.wellFormed = true) :
    standsFor (encodeParts i).1 (encodeParts i).2 i := by
  cases access : accessOf i with
  | some a => exact standsFor_of_access access wf
  | none =>
    by_cases writes : ∃ d, writesOf i = [d]
    · exact standsFor_of_write access writes.choose_spec wf
    · exact standsFor_of_no_write access fun d h => writes ⟨d, h⟩

/-- Settles O4: in either byte order the fields come back from the slots, and they stand for the instruction. -/
theorem decodeOfEncodeIsTheInstruction : Obligations.DecodeOfEncodeIsTheInstruction := by
  unfold Obligations.DecodeOfEncodeIsTheInstruction
  intro e i wf
  obtain ⟨-, stands⟩ := standsFor_encodeParts i wf
  unfold encode decode
  cases hn : (encodeParts i).2 with
  | none =>
    refine .inl ⟨_, rfl, fun next => ?_⟩
    rw [fieldsOf_slotOf]
    exact stands _ fun n h => nomatch hn.symm.trans h
  | some n =>
    refine .inr ⟨_, _, rfl, ?_⟩
    rw [fieldsOf_slotOf, Option.map_some, fieldsOf_slotOf]
    exact stands _ fun m h => by cases hn.symm.trans h; rfl

end Sys2Proof.RoundTripProofs

/-! The decoder accepts nothing but encodings (30_encoding.md R80, R81, R87), and what that says of a step at a slot. -/

namespace Sys2Proof.DecodeProofs

open Sys2Proof.Machine Sys2Proof.EncodingProofs Sys2Proof.MemoryProofs

/-! ### What the decoder's readers accept -/

/-- The encoder gives these fields back for the instruction, which is well formed. -/
def EncodesTo (f : Fields) (next : Option Fields) (i : Instr) : Prop :=
  i.wellFormed = true ∧ ∃ n, encodeParts i = (f, n) ∧ ∀ m, n = some m → next = some (pseudoFields m)

/-- A reader that knows its opcode accepts only encodings, and never rejects that opcode as undefined. -/
def Faithful (f : Fields) (next : Option Fields) : Except Reject Instr → Prop
  | .ok i => EncodesTo f next i
  | .error r => r ≠ .undefinedOpcode

theorem eq_toBits_of_regOfBits {n : BitVec 4} {r : Reg} : regOfBits n = some r → n = r.toBits := by
  revert n r
  decide

section
variable {f : Fields} {next : Option Fields}

theorem faithful_unused {zero : Bool} {k : Unit → Except Reject Instr} (h : zero = true → Faithful f next (k ())) :
    Faithful f next (unused zero >>= k) := by
  cases zero with
  | true => exact h rfl
  | false => exact Reject.noConfusion

theorem faithful_readReg {n : BitVec 4} {k : Reg → Except Reject Instr}
    (h : ∀ r, n = r.toBits → Faithful f next (k r)) : Faithful f next (readReg n >>= k) := by
  unfold readReg
  cases hn : regOfBits n with
  | some r => exact h r (eq_toBits_of_regOfBits hn)
  | none => exact Reject.noConfusion

theorem faithful_readDst {n : BitVec 4} {k : Reg → Except Reject Instr}
    (h : ∀ d, (d != .r10) = true → n = d.toBits → Faithful f next (k d)) : Faithful f next (readDst n >>= k) := by
  unfold readDst
  rw [bind_assoc]
  refine faithful_readReg fun d hd => ?_
  by_cases hr : d = .r10
  · rw [if_pos hr]
    exact Reject.noConfusion
  · rw [if_neg hr]
    exact h d (bne_iff_ne.mpr hr) hd

theorem faithful_select {α : Type} {o : Option α} {k : α → Except Reject Instr}
    (h : ∀ a, o = some a → Faithful f next (k a)) : Faithful f next (select o k) := by
  cases o with
  | some a => exact h a rfl
  | none => exact Reject.noConfusion

theorem faithful_readNext {k : BitVec 32 → Except Reject Instr}
    (h : ∀ n, next = some (pseudoFields n) → Faithful f next (k n)) : Faithful f next (readNext next >>= k) := by
  match next with
  | none => exact Reject.noConfusion
  | some ⟨op, d, r, o, n⟩ =>
    simp only [readNext]
    split
    case isTrue zero =>
      simp only [Bool.and_eq_true, beq_iff_eq] at zero
      obtain ⟨⟨⟨rfl, rfl⟩, rfl⟩, rfl⟩ := zero
      exact h n rfl
    case isFalse => exact Reject.noConfusion

theorem faithful_readNextZero {k : Unit → Except Reject Instr}
    (h : next = some (pseudoFields 0#32) → Faithful f next (k ())) : Faithful f next (readNextZero next >>= k) := by
  unfold readNextZero
  rw [bind_assoc]
  refine faithful_readNext fun n hn => ?_
  split
  case isTrue zero => exact h (hn.trans (by rw [eq_of_beq zero]; rfl))
  case isFalse => exact Reject.noConfusion

theorem faithful_readNextAddend {k : BitVec 32 → Except Reject Instr}
    (h : ∀ n, n.msb = false → next = some (pseudoFields n) → Faithful f next (k n)) :
    Faithful f next (readNextAddend next >>= k) := by
  unfold readNextAddend
  rw [bind_assoc]
  refine faithful_readNext fun n hn => ?_
  cases hmsb : n.msb with
  | true => exact Reject.noConfusion
  | false => exact h n hmsb hn

/-- The row of an instruction with its fields in hand: what is left of a reader once its checks have passed. -/
theorem encodesTo_of_row {op : BitVec 8} {d r : BitVec 4} {o : BitVec 16} {k : BitVec 32} {i : Instr}
    {n : Option (BitVec 32)} (hop : f.opcode = op) (hd : f.dst = d) (hr : f.src = r) (ho : f.offset = o)
    (hk : f.imm = k) (wf : i.wellFormed = true) (enc : encodeParts i = (⟨op, d, r, o, k⟩, n))
    (hn : ∀ m, n = some m → next = some (pseudoFields m)) : EncodesTo f next i := by
  subst hop hd hr ho hk
  exact ⟨wf, n, enc, hn⟩

theorem encodesTo_oneSlot {op : BitVec 8} {d r : BitVec 4} {o : BitVec 16} {k : BitVec 32} {i : Instr}
    (hop : f.opcode = op) (hd : f.dst = d) (hr : f.src = r) (ho : f.offset = o) (hk : f.imm = k)
    (wf : i.wellFormed = true) (enc : encodeParts i = (⟨op, d, r, o, k⟩, none)) : EncodesTo f next i :=
  encodesTo_of_row hop hd hr ho hk wf enc fun _ h => nomatch h

end

/-! ### The rows of the encoder, by format -/

/-- An instruction made of `dst_reg`, which it writes, and `imm`. -/
def DstImmRow (op : BitVec 8) (o : BitVec 16) (mk : Reg → BitVec 32 → Instr) : Prop :=
  ∀ d k, (mk d k).wellFormed = (d != .r10) ∧ encodeParts (mk d k) = (⟨op, d.toBits, 0#4, o, k⟩, none)

/-- An instruction made of `dst_reg`, which it writes, and `src_reg`. -/
def DstSrcRow (op : BitVec 8) (o : BitVec 16) (mk : Reg → Reg → Instr) : Prop :=
  ∀ d r, (mk d r).wellFormed = (d != .r10) ∧ encodeParts (mk d r) = (⟨op, d.toBits, r.toBits, o, 0#32⟩, none)

/-- An instruction made of `dst_reg` alone, which it writes. -/
def DstRow (op : BitVec 8) (k : BitVec 32) (mk : Reg → Instr) : Prop :=
  ∀ d, (mk d).wellFormed = (d != .r10) ∧ encodeParts (mk d) = (⟨op, d.toBits, 0#4, 0#16, k⟩, none)

/-- An instruction made of `dst_reg`, `offset` and `imm`, which writes no register. -/
def OffsetImmRow (op : BitVec 8) (mk : Reg → BitVec 16 → BitVec 32 → Instr) : Prop :=
  ∀ d o k, (mk d o k).wellFormed = true ∧ encodeParts (mk d o k) = (⟨op, d.toBits, 0#4, o, k⟩, none)

/-- An instruction made of `dst_reg`, `src_reg` and `offset`, with the condition on its registers. -/
def OffsetSrcRow (op : BitVec 8) (k : BitVec 32) (wf : Reg → Reg → Bool) (mk : Reg → Reg → BitVec 16 → Instr) : Prop :=
  ∀ d r o, (mk d r o).wellFormed = wf d r ∧ encodeParts (mk d r o) = (⟨op, d.toBits, r.toBits, o, k⟩, none)

/-! ### The readers -/

section
variable {f : Fields} {next : Option Fields} {op : BitVec 8} (hop : f.opcode = op)
include hop

theorem faithful_readAluK {mk : Reg → BitVec 32 → Instr} (row : DstImmRow op 0#16 mk) :
    Faithful f next (readAluK f mk) :=
  faithful_unused fun h => faithful_readDst fun d wf hd =>
    have ⟨hr, ho⟩ := Bool.and_eq_true_iff.mp h
    encodesTo_oneSlot hop hd (eq_of_beq hr) (eq_of_beq ho) rfl ((row d f.imm).1.trans wf) (row d f.imm).2

theorem faithful_readAluX {mk : Reg → Reg → Instr} (row : DstSrcRow op 0#16 mk) :
    Faithful f next (readAluX f mk) :=
  faithful_unused fun h => faithful_readDst fun d wf hd => faithful_readReg fun r hr =>
    have ⟨hk, ho⟩ := Bool.and_eq_true_iff.mp h
    encodesTo_oneSlot hop hd hr (eq_of_beq ho) (eq_of_beq hk) ((row d r).1.trans wf) (row d r).2

theorem faithful_readUnary {mk : Reg → Instr} (row : DstRow op 0#32 mk) : Faithful f next (readUnary f mk) :=
  faithful_unused fun h => faithful_readDst fun d wf hd =>
    have ⟨h, hk⟩ := Bool.and_eq_true_iff.mp h
    have ⟨hr, ho⟩ := Bool.and_eq_true_iff.mp h
    encodesTo_oneSlot hop hd (eq_of_beq hr) (eq_of_beq ho) (eq_of_beq hk) ((row d).1.trans wf) (row d).2

/-- The reader of one selected operation: `offset` is the selector, not an unused field. -/
theorem faithful_readAluK_selected {o : BitVec 16} {mk : Reg → BitVec 32 → Instr} (ho : f.offset = o)
    (row : DstImmRow op o mk) : Faithful f next (readAluK { f with offset := 0 } mk) :=
  faithful_unused fun h => faithful_readDst fun d wf hd =>
    encodesTo_oneSlot hop hd (eq_of_beq (Bool.and_eq_true_iff.mp h).1) ho rfl ((row d f.imm).1.trans wf) (row d f.imm).2

theorem faithful_readAluX_selected {o : BitVec 16} {mk : Reg → Reg → Instr} (ho : f.offset = o)
    (row : DstSrcRow op o mk) : Faithful f next (readAluX { f with offset := 0 } mk) :=
  faithful_unused fun h => faithful_readDst fun d wf hd => faithful_readReg fun r hr =>
    encodesTo_oneSlot hop hd hr ho (eq_of_beq (Bool.and_eq_true_iff.mp h).1) ((row d r).1.trans wf) (row d r).2

theorem faithful_readUnary_selected {k : BitVec 32} {mk : Reg → Instr} (hk : f.imm = k) (row : DstRow op k mk) :
    Faithful f next (readUnary { f with imm := 0 } mk) :=
  faithful_unused fun h => faithful_readDst fun d wf hd =>
    have ⟨hr, ho⟩ := Bool.and_eq_true_iff.mp (Bool.and_eq_true_iff.mp h).1
    encodesTo_oneSlot hop hd (eq_of_beq hr) (eq_of_beq ho) hk ((row d).1.trans wf) (row d).2

omit hop in
theorem signSelector_eq_some {α : Type} {n : BitVec 16} {u v a : α} (h : signSelector n u v = some a) :
    n = 0#16 ∧ a = u ∨ n = 1#16 ∧ a = v := by
  unfold signSelector at h
  split at h
  case h_1 hn => exact .inl ⟨BitVec.eq_of_toNat_eq hn, (Option.some.inj h).symm⟩
  case h_2 hn => exact .inr ⟨BitVec.eq_of_toNat_eq hn, (Option.some.inj h).symm⟩
  case h_3 => cases h

theorem faithful_readAluKSigned {mkU mkS : Reg → BitVec 32 → Instr} (rowU : DstImmRow op 0#16 mkU)
    (rowS : DstImmRow op 1#16 mkS) : Faithful f next (readAluKSigned f mkU mkS) :=
  faithful_select fun mk h => by
    obtain ⟨ho, rfl⟩ | ⟨ho, rfl⟩ := signSelector_eq_some h
    · exact faithful_readAluK_selected hop ho rowU
    · exact faithful_readAluK_selected hop ho rowS

theorem faithful_readAluXSigned {mkU mkS : Reg → Reg → Instr} (rowU : DstSrcRow op 0#16 mkU)
    (rowS : DstSrcRow op 1#16 mkS) : Faithful f next (readAluXSigned f mkU mkS) :=
  faithful_select fun mk h => by
    obtain ⟨ho, rfl⟩ | ⟨ho, rfl⟩ := signSelector_eq_some h
    · exact faithful_readAluX_selected hop ho rowU
    · exact faithful_readAluX_selected hop ho rowS

theorem faithful_readMovX {mov : Reg → Reg → Instr} {sx : Nat → Option (Reg → Reg → Instr)}
    (row : DstSrcRow op 0#16 mov) (rowSx : ∀ n mk, sx n = some mk → DstSrcRow op (BitVec.ofNat 16 n) mk) :
    Faithful f next (readMovX f mov sx) :=
  faithful_select fun mk h => by
    split at h
    case isTrue ho =>
      cases h
      exact faithful_readAluX_selected hop (eq_of_beq ho) row
    case isFalse =>
      exact faithful_readAluX_selected hop (by simp) (rowSx _ mk h)

theorem faithful_readSwap {mk16 mk32 mk64 : Reg → Instr} (row16 : DstRow op 16#32 mk16) (row32 : DstRow op 32#32 mk32)
    (row64 : DstRow op 64#32 mk64) : Faithful f next (readSwap f mk16 mk32 mk64) :=
  faithful_select fun mk h => by
    split at h
    case h_1 hk =>
      cases h
      exact faithful_readUnary_selected hop (BitVec.eq_of_toNat_eq (y := 16#32) hk) row16
    case h_2 hk =>
      cases h
      exact faithful_readUnary_selected hop (BitVec.eq_of_toNat_eq (y := 32#32) hk) row32
    case h_3 hk =>
      cases h
      exact faithful_readUnary_selected hop (BitVec.eq_of_toNat_eq (y := 64#32) hk) row64
    case h_4 => cases h

theorem faithful_readJumpK {mk : Reg → BitVec 16 → BitVec 32 → Instr} (row : OffsetImmRow op mk) :
    Faithful f next (readJumpK f mk) :=
  faithful_unused fun hr => faithful_readReg fun d hd =>
    encodesTo_oneSlot hop hd (eq_of_beq hr) rfl rfl (row d f.offset f.imm).1 (row d f.offset f.imm).2

theorem faithful_readJumpX {mk : Reg → Reg → BitVec 16 → Instr} (row : OffsetSrcRow op 0#32 (fun _ _ => true) mk) :
    Faithful f next (readJumpX f mk) :=
  faithful_unused fun hk => faithful_readReg fun d hd => faithful_readReg fun r hr =>
    encodesTo_oneSlot hop hd hr rfl (eq_of_beq hk) (row d r f.offset).1 (row d r f.offset).2

theorem faithful_readLoad {mk : Reg → Reg → BitVec 16 → Instr} (row : OffsetSrcRow op 0#32 (fun d _ => d != .r10) mk) :
    Faithful f next (readLoad f mk) :=
  faithful_unused fun hk => faithful_readDst fun d wf hd => faithful_readReg fun r hr =>
    encodesTo_oneSlot hop hd hr rfl (eq_of_beq hk) ((row d r f.offset).1.trans wf) (row d r f.offset).2

/-- A fetching operation writes `src_reg`, the others no register but R0. -/
theorem faithful_readAtomic {sel : BitVec 32 → Option (Bool × (Reg → Reg → BitVec 16 → Instr))}
    (rows : ∀ k fetch mk, sel k = some (fetch, mk) → OffsetSrcRow op k (fun _ r => !fetch || r != .r10) mk) :
    Faithful f next (readAtomic f (sel f.imm)) :=
  faithful_select fun (fetch, mk) h => faithful_readReg fun d hd => by
    have row r := rows _ _ _ h d r f.offset
    cases fetch with
    | false => exact faithful_readReg fun r hr => encodesTo_oneSlot hop hd hr rfl rfl (row r).1 (row r).2
    | true => exact faithful_readDst fun r wf hr => encodesTo_oneSlot hop hd hr rfl rfl ((row r).1.trans wf) (row r).2

end

section
variable {f : Fields} {next : Option Fields}

theorem faithful_readJump (hop : f.opcode = 0x05#8) : Faithful f next (readJump f) :=
  faithful_unused fun h => by
    simp only [Bool.and_eq_true, beq_iff_eq] at h
    obtain ⟨⟨hd, hr⟩, hk⟩ := h
    exact encodesTo_oneSlot hop hd hr rfl hk rfl rfl

theorem faithful_readJump32 (hop : f.opcode = 0x06#8) : Faithful f next (readJump32 f) :=
  faithful_unused fun h => by
    simp only [Bool.and_eq_true, beq_iff_eq] at h
    obtain ⟨⟨hd, hr⟩, ho⟩ := h
    exact encodesTo_oneSlot hop hd hr ho rfl rfl rfl

theorem faithful_readExit (hop : f.opcode = 0x95#8) : Faithful f next (readExit f) :=
  faithful_unused fun h => by
    simp only [Bool.and_eq_true, beq_iff_eq] at h
    obtain ⟨⟨⟨hd, hr⟩, ho⟩, hk⟩ := h
    exact encodesTo_oneSlot hop hd hr ho hk rfl rfl

theorem faithful_readCall (hop : f.opcode = 0x85#8) : Faithful f next (readCall f) :=
  faithful_select fun mk hsel => faithful_unused fun h => by
    have ⟨hd, ho⟩ := Bool.and_eq_true_iff.mp h
    have called (sub : BitVec 4) (hr : f.src.toNat = sub.toNat) (wf : (mk f.imm).wellFormed = true)
        (enc : encodeParts (mk f.imm) = (⟨0x85#8, 0#4, sub, 0#16, f.imm⟩, none)) : EncodesTo f next (mk f.imm) :=
      encodesTo_oneSlot hop (eq_of_beq hd) (BitVec.eq_of_toNat_eq hr) (eq_of_beq ho) rfl wf enc
    split at hsel
    case h_1 hr => cases hsel; exact called 0#4 hr rfl rfl
    case h_2 hr => cases hsel; exact called 1#4 hr rfl rfl
    case h_3 hr => cases hsel; exact called 2#4 hr rfl rfl
    case h_4 => cases hsel

theorem faithful_readSubtype {d : Reg} (hop : f.opcode = 0x18#8) (hd : f.dst = d.toBits) (wf : (d != .r10) = true)
    (ho : f.offset = 0#16) : Faithful f next (readSubtype f next d) := by
  have row {i : Instr} {n : BitVec 32} (sub : BitVec 4) (hr : f.src.toNat = sub.toNat) (hi : i.wellFormed = true)
      (enc : encodeParts i = (⟨0x18#8, d.toBits, sub, 0#16, f.imm⟩, some n))
      (hn : next = some (pseudoFields n)) : EncodesTo f next i :=
    encodesTo_of_row hop hd (BitVec.eq_of_toNat_eq hr) ho rfl hi enc fun m h => Option.some.inj h ▸ hn
  unfold readSubtype
  split
  case h_1 hr => exact faithful_readNext fun n hn => row 0#4 hr wf rfl hn
  case h_2 hr => exact faithful_readNextZero fun hn => row 1#4 hr wf rfl hn
  case h_3 hr =>
    exact faithful_readNextAddend fun n hmsb hn =>
      row 2#4 hr (Bool.and_eq_true_iff.mpr ⟨wf, by rw [hmsb]; rfl⟩) rfl hn
  case h_4 hr => exact faithful_readNextZero fun hn => row 3#4 hr wf rfl hn
  case h_5 hr => exact faithful_readNextZero fun hn => row 4#4 hr wf rfl hn
  case h_6 hr => exact faithful_readNextZero fun hn => row 5#4 hr wf rfl hn
  case h_7 hr =>
    exact faithful_readNextAddend fun n hmsb hn =>
      row 6#4 hr (Bool.and_eq_true_iff.mpr ⟨wf, by rw [hmsb]; rfl⟩) rfl hn
  case h_8 => exact Reject.noConfusion

theorem faithful_readWide (hop : f.opcode = 0x18#8) : Faithful f next (readWide f next) := by
  unfold readWide
  split
  case isTrue =>
    exact faithful_unused fun ho => faithful_readDst fun d wf hd => faithful_readSubtype hop hd wf (eq_of_beq ho)
  case isFalse => exact Reject.noConfusion

/-- The ten operations of R77, in 32 bits. -/
theorem atomicOf32_rows (k : BitVec 32) (fetch : Bool) (mk : Reg → Reg → BitVec 16 → Instr)
    (h : atomicOf32 k = some (fetch, mk)) : OffsetSrcRow 0xc3#8 k (fun _ r => !fetch || r != .r10) mk := by
  rw [show k = BitVec.ofNat 32 k.toNat by simp]
  unfold atomicOf32 at h
  split at h
  case h_11 => cases h
  all_goals
    cases h
    simp only [*]
    exact fun _ _ _ => ⟨rfl, rfl⟩

/-- The ten operations of R77, in 64 bits. -/
theorem atomicOf64_rows (k : BitVec 32) (fetch : Bool) (mk : Reg → Reg → BitVec 16 → Instr)
    (h : atomicOf64 k = some (fetch, mk)) : OffsetSrcRow 0xdb#8 k (fun _ r => !fetch || r != .r10) mk := by
  rw [show k = BitVec.ofNat 32 k.toNat by simp]
  unfold atomicOf64 at h
  split at h
  case h_11 => cases h
  all_goals
    cases h
    simp only [*]
    exact fun _ _ _ => ⟨rfl, rfl⟩

/-- The encoding of a legacy instruction keeps all its fields. -/
theorem encodesTo_legacy {op : BitVec 8} {mk : BitVec 4 → BitVec 4 → BitVec 16 → BitVec 32 → Instr}
    (hop : f.opcode = op)
    (row : ∀ d r o k, (mk d r o k).wellFormed = true ∧ encodeParts (mk d r o k) = (⟨op, d, r, o, k⟩, none)) :
    EncodesTo f next (mk f.dst f.src f.offset f.imm) :=
  encodesTo_oneSlot hop rfl rfl rfl rfl (row _ _ _ _).1 (row _ _ _ _).2

end

/-- The decoder is faithful at every opcode of the map of R79: one case for each row, grouped by the reader of its
format. -/
theorem faithful_decodeFields {f : Fields} (next : Option Fields)
    (h : f.opcode.toNat ∈ definedOpcodes ++ legacyOpcodes) : Faithful f next (decodeFields f next) := by
  have hop : f.opcode = BitVec.ofNat 8 f.opcode.toNat := by simp
  unfold decodeFields
  generalize f.opcode.toNat = n at h hop ⊢
  split
  case h_1 | h_4 | h_7 | h_10 | h_17 | h_20 | h_37 | h_40 | h_47 | h_50 | h_59 | h_62 | h_73 | h_76 | h_95 | h_98
      | h_103 | h_106 | h_112 | h_115 =>
    exact faithful_readAluK hop fun _ _ => ⟨rfl, rfl⟩
  case h_5 | h_6 | h_12 | h_15 | h_22 | h_25 | h_42 | h_45 | h_52 | h_55 | h_66 | h_69 | h_80 | h_83 | h_99 | h_102
      | h_116 | h_119 =>
    exact faithful_readAluX hop fun _ _ => ⟨rfl, rfl⟩
  case h_8 | h_9 | h_18 | h_19 | h_28 | h_29 | h_38 | h_39 | h_48 | h_49 | h_57 | h_60 | h_61 | h_64 | h_71 | h_74
      | h_75 | h_78 | h_96 | h_97 | h_104 | h_105 | h_113 | h_114 | h_121 | h_122 =>
    exact faithful_readJumpK hop fun _ _ _ => ⟨rfl, rfl⟩
  case h_13 | h_14 | h_23 | h_24 | h_33 | h_34 | h_43 | h_44 | h_53 | h_54 | h_58 | h_65 | h_67 | h_68 | h_72 | h_79
      | h_81 | h_82 | h_100 | h_101 | h_108 | h_109 | h_117 | h_118 | h_126 | h_127 =>
    exact faithful_readJumpX hop fun _ _ _ => ⟨rfl, rfl⟩
  case h_16 | h_21 | h_26 | h_31 | h_36 | h_41 | h_46 | h_51 => exact encodesTo_legacy hop fun _ _ _ _ => ⟨rfl, rfl⟩
  case h_27 | h_30 | h_90 | h_92 => exact faithful_readAluKSigned hop (fun _ _ => ⟨rfl, rfl⟩) (fun _ _ => ⟨rfl, rfl⟩)
  case h_32 | h_35 | h_93 | h_94 => exact faithful_readAluXSigned hop (fun _ _ => ⟨rfl, rfl⟩) (fun _ _ => ⟨rfl, rfl⟩)
  case h_56 | h_63 | h_70 | h_77 | h_84 | h_88 | h_89 => exact faithful_readLoad hop fun _ _ _ => ⟨rfl, rfl⟩
  case h_85 | h_87 => exact faithful_readUnary hop fun _ => ⟨rfl, rfl⟩
  case h_107 | h_110 =>
    refine faithful_readMovX hop (fun _ _ => ⟨rfl, rfl⟩) fun n mk h => ?_
    split at h <;> cases h <;> exact fun _ _ => ⟨rfl, rfl⟩
  case h_120 | h_123 | h_125 =>
    exact faithful_readSwap hop (fun _ => ⟨rfl, rfl⟩) (fun _ => ⟨rfl, rfl⟩) (fun _ => ⟨rfl, rfl⟩)
  case h_2 => exact faithful_readJump hop
  case h_3 => exact faithful_readJump32 hop
  case h_86 => exact faithful_readCall hop
  case h_91 => exact faithful_readExit hop
  case h_11 => exact faithful_readWide hop
  case h_111 => exact faithful_readAtomic hop atomicOf32_rows
  case h_124 => exact faithful_readAtomic hop atomicOf64_rows
  case h_128 =>
    simp only [definedOpcodes, legacyOpcodes, List.cons_append, List.nil_append, List.mem_cons, List.not_mem_nil,
      or_false] at h
    grind

/-- A legacy opcode decodes, and its meaning is the fault (R231, log 15). -/
theorem decodeFields_of_legacy {f : Fields} (next : Option Fields) (h : f.opcode.toNat ∈ legacyOpcodes) :
    ∃ i, decodeFields f next = .ok i ∧ ∀ s, exec i s = .fault (.legacyInstruction f.opcode) := by
  obtain ⟨op, d, r, o, k⟩ := f
  have hop : op = BitVec.ofNat 8 op.toNat := by simp
  simp only [legacyOpcodes, List.mem_cons, List.not_mem_nil, or_false] at h
  obtain h | h | h | h | h | h | h | h := h
  all_goals
    rw [h] at hop
    subst hop
    exact ⟨_, rfl, fun _ => rfl⟩

/-- Settles O8: inside the map the decoder is faithful, outside it every opcode is undefined; a legacy opcode has no
check. -/
theorem undefinedOpcodesAreExactlyTheDots : Obligations.UndefinedOpcodesAreExactlyTheDots := by
  unfold Obligations.UndefinedOpcodesAreExactlyTheDots
  refine ⟨by decide, by decide, by simp [definedOpcodes, legacyOpcodes],
    fun f next => ⟨fun undefined mem => ?inside, decodeFields_of_not_mem next⟩, fun f next mem => ?legacy⟩
  case inside =>
    have faithful := faithful_decodeFields next mem
    rw [undefined] at faithful
    exact faithful rfl
  case legacy => exact (decodeFields_of_legacy next mem).imp fun _ => And.left

/-! ### The slots an accepted encoding was read from -/

/-- The register fields are the two halves of byte 1. -/
theorem halves_append (b : Byte) : b.extractLsb' 4 4 ++ b.extractLsb' 0 4 = b :=
  BitVec.extractLsb'_append_extractLsb'

/-- The two halves of byte 1 and the bytes of `offset` and `imm` are all the bits of a slot (R61, R62). -/
theorem slotOf_fieldsOf (e : Endian) (a : Slot) : slotOf e (fieldsOf e a) = a := by
  obtain ⟨b0, b1, b2, b3, b4, b5, b6, b7⟩ := a
  cases e <;> simp [slotOf, fieldsOf, byteOf, halves_append, byte_append_low, byte_append_high]

theorem encodesTo_of_decodeFields {f : Fields} {next : Option Fields} {i : Instr} (h : decodeFields f next = .ok i) :
    EncodesTo f next i := by
  have mem : f.opcode.toNat ∈ definedOpcodes ++ legacyOpcodes := by
    by_contra out
    cases (decodeFields_of_not_mem next out).symm.trans h
  have faithful := faithful_decodeFields next mem
  rwa [h] at faithful

/-- Settles O5: the decoder accepts only encodings, and the layout of a slot loses no bit. -/
theorem encodeOfDecodeIsTheWord : Obligations.EncodeOfDecodeIsTheWord := by
  unfold Obligations.EncodeOfDecodeIsTheWord
  intro e a next i h
  obtain ⟨wf, n, enc, second⟩ := encodesTo_of_decodeFields h
  refine ⟨wf, ?_⟩
  unfold encode
  rw [enc, slotOf_fieldsOf]
  cases n with
  | none => exact .inl rfl
  | some m =>
    obtain ⟨b, hb, fields⟩ := Option.map_eq_some_iff.mp (second m rfl)
    exact .inr ⟨b, hb, by simp only [Option.map_some, ← fields, slotOf_fieldsOf, Option.toList_some]⟩

end Sys2Proof.DecodeProofs

/-! What a step does at a slot (10_state.md R27, 30_encoding.md R88): it runs the instruction the slots decode to, or it
raises the fault of their rejection. -/

namespace Sys2Proof.StepProofs

open Sys2Proof.Machine Sys2Proof.Imm64LegacyProofs Sys2Proof.DecodeProofs

/-! ### The slot at `pc` -/

theorem slotAt_of_nonneg {prog : List Slot} {pc : Int} (h : 0 ≤ pc) : slotAt prog pc = prog[pc.toNat]? :=
  if_neg (Int.not_lt.mpr h)

theorem slotAt_eq_none {prog : List Slot} {pc : Int} (h : pc < 0 ∨ (prog.length : Int) ≤ pc) :
    slotAt prog pc = none := by
  obtain neg | past := h
  · exact if_pos neg
  · rw [slotAt_of_nonneg (by omega)]
    exact List.getElem?_eq_none (by omega)

theorem step_of_decode_ok {s : State} {a : Slot} {i : Instr} (hrun : s.st = .running)
    (hslot : slotAt s.prog s.pc = some a) (hdec : decode s.plat.endian a (slotAt s.prog (s.pc + 1)) = .ok i) :
    step s = exec i s := by
  simp only [step, hrun, fetch, hslot, hdec]

/-- Settles O14: inside the program `slotAt` is the program's slot, and the decoder accepts only well-formed
instructions. -/
theorem stepRunsTheDecodedInstruction : Obligations.StepRunsTheDecodedInstruction := by
  unfold Obligations.StepRunsTheDecodedInstruction
  intro s a i hrun hpc hslot hdec
  obtain ⟨wf, -⟩ := encodesTo_of_decodeFields hdec
  rw [← slotAt_of_nonneg hpc] at hslot
  rw [← slotAt_of_nonneg (by omega)] at hdec
  exact ⟨wf, step_of_decode_ok hrun hslot hdec⟩

/-- Settles O15: there is no slot to fetch. -/
theorem fetchOutsideTheProgramRaises : Obligations.FetchOutsideTheProgramRaises := by
  unfold Obligations.FetchOutsideTheProgramRaises
  intro s hrun hpc
  simp only [step, hrun, fetch, slotAt_eq_none hpc, raise]

/-! ### Rejected encodings -/

theorem faultOfReject_eq (pc : Int) (r : Reject) :
    faultOfReject pc r = if r = .missingSecondSlot then .pcOutOfRange (pc + 1) else .illegalInstruction pc := by
  cases r <;> rfl

/-- Settles O13: the step raises the rejection's fault, and settling a fault records it and nothing else. -/
theorem rejectedEncodingsRaiseAndChangeNothing : Obligations.RejectedEncodingsRaiseAndChangeNothing := by
  unfold Obligations.RejectedEncodingsRaiseAndChangeNothing
  intro s a r hrun hslot hdec
  have fault := step_of_decode_error hrun hslot hdec
  rw [faultOfReject_eq] at fault
  exact ⟨_, rfl, fault, by rw [fault]; rfl⟩

/-! ### Reserved encodings (D7, D9, D29, D37) -/

/-- A rejection that is an illegal instruction: the second slot is not what is missing. -/
def IsIllegal {α : Type} (x : Except Reject α) : Prop :=
  ∃ r, r ≠ .missingSecondSlot ∧ x = .error r

theorem step_of_isIllegal {s : State} {a : Slot} (hrun : s.st = .running) (hslot : slotAt s.prog s.pc = some a)
    (hdec : IsIllegal (decode s.plat.endian a (slotAt s.prog (s.pc + 1)))) :
    step s = .fault (.illegalInstruction s.pc) := by
  obtain ⟨r, hr, hdec⟩ := hdec
  rw [step_of_decode_error hrun hslot hdec, faultOfReject_eq, if_neg hr]

theorem isIllegal_bind {α β : Type} {x : Except Reject α} {k : α → Except Reject β}
    (hx : x ≠ .error .missingSecondSlot) (hk : ∀ a, IsIllegal (k a)) : IsIllegal (x >>= k) := by
  cases x with
  | error r => exact ⟨r, fun h => hx (h ▸ rfl), rfl⟩
  | ok a => exact hk a

theorem isIllegal_bind_left {α β : Type} {x : Except Reject α} {k : α → Except Reject β} (hx : IsIllegal x) :
    IsIllegal (x >>= k) := by
  obtain ⟨r, hr, rfl⟩ := hx
  exact ⟨r, hr, rfl⟩

theorem unused_ne_missing (zero : Bool) : unused zero ≠ .error .missingSecondSlot := by
  cases zero <;> exact nofun

theorem readDst_ne_missing (n : BitVec 4) : readDst n ≠ .error .missingSecondSlot := by
  revert n
  decide

/-- A wide instruction whose second slot is refused is an illegal instruction, whatever its first slot holds. -/
theorem isIllegal_readWide {f : Fields} {next : Option Fields} (hnext : IsIllegal (readNext next)) :
    IsIllegal (readWide f next) := by
  unfold readWide
  split
  case isFalse => exact ⟨.undefinedSelector, nofun, rfl⟩
  case isTrue =>
    refine isIllegal_bind nofun fun _ => isIllegal_bind (unused_ne_missing _) fun _ =>
      isIllegal_bind (readDst_ne_missing _) fun d => ?_
    unfold readSubtype
    split
    case h_1 => exact isIllegal_bind_left hnext
    case h_2 | h_3 | h_4 | h_5 | h_6 | h_7 => exact isIllegal_bind_left (isIllegal_bind_left hnext)
    case h_8 => exact ⟨.undefinedSelector, nofun, rfl⟩

theorem eq_pseudoFields {g : Fields} (hop : g.opcode = 0) (hd : g.dst = 0) (hr : g.src = 0) (ho : g.offset = 0) :
    g = pseudoFields g.imm := by
  obtain ⟨op, d, r, o, k⟩ := g
  cases hop; cases hd; cases hr; cases ho
  rfl

/-- Bytes 0 to 3 of a slot hold the fields that a second slot leaves zero (R66). -/
theorem readNext_fieldsOf (e : Endian) (b : Slot) (h : ¬(b.b0 = 0#8 ∧ b.b1 = 0#8 ∧ b.b2 = 0#8 ∧ b.b3 = 0#8)) :
    readNext (some (fieldsOf e b)) = .error .secondSlot := by
  refine if_neg fun zero => h ?_
  simp only [Bool.and_eq_true, beq_iff_eq] at zero
  obtain ⟨⟨⟨hop, hd⟩, hr⟩, ho⟩ := zero
  rw [← slotOf_fieldsOf e b, eq_pseudoFields hop hd hr ho]
  cases e <;> simp [slotOf, pseudoFields, byteOf]

/-- Settles O12: an opcode with a dot, a second slot with a byte set, and an opcode marked L. -/
theorem reservedEncodingsRaise : Obligations.ReservedEncodingsRaise := by
  unfold Obligations.ReservedEncodingsRaise
  intro s a hrun hslot
  refine ⟨fun hop => ?dot, fun b hop hb hbytes => ?second, fun hop => ?legacy⟩
  case dot =>
    refine step_of_isIllegal hrun hslot ⟨.undefinedOpcode, nofun, EncodingProofs.decodeFields_of_not_mem _ ?_⟩
    rw [fieldsOf_opcode, hop]
    decide
  case second =>
    refine step_of_isIllegal hrun hslot ?_
    have wide : (fieldsOf s.plat.endian a).opcode = 0x18#8 := (fieldsOf_opcode _ a).trans hop
    rw [hb, decode, Option.map_some, decodeFields, wide]
    exact isIllegal_readWide ⟨.secondSlot, nofun, readNext_fieldsOf _ b hbytes⟩
  case legacy =>
    rw [← fieldsOf_opcode s.plat.endian a] at hop ⊢
    obtain ⟨i, hdec, hexec⟩ := decodeFields_of_legacy ((slotAt s.prog (s.pc + 1)).map (fieldsOf s.plat.endian)) hop
    rw [step_of_decode_ok hrun hslot hdec, hexec]

end Sys2Proof.StepProofs

/-! The entry state (10_state.md R36) and the register reads (R23). -/

namespace Sys2Proof.EntryProofs

open Sys2Proof.Machine

/-- The registers R2 to R5 take the entry values in the order the launch lists them. -/
theorem entry_get_arg (p : Platform) {k : Nat} {r : Reg} (h : [Reg.r2, .r3, .r4, .r5][k]? = some r) :
    (RegFile.entry p).get r = match p.entryArgs[k]? with | some v => .word v | none => .unwritten := by
  match k, h with
  | 0, h | 1, h | 2, h | 3, h => cases h; rfl

theorem entry_get_unwritten (p : Platform) {r : Reg} (h : r ∈ [Reg.r0, .r6, .r7, .r8, .r9]) :
    (RegFile.entry p).get r = .unwritten := by
  simp only [List.mem_cons, List.not_mem_nil, or_false] at h
  obtain rfl | rfl | rfl | rfl | rfl := h <;> rfl

/-- Settles O1: the launch is made of `RegFile.entry`, and reset is the launch of the default platform. -/
theorem resetIsTheEntryState : Obligations.ResetIsTheEntryState := by
  unfold Obligations.ResetIsTheEntryState
  exact ⟨fun p _ _ => ⟨rfl, rfl, rfl, rfl, rfl, rfl, rfl, rfl, fun _ => entry_get_unwritten p,
    fun _ _ => entry_get_arg p⟩, rfl, rfl, rfl, rfl, rfl, rfl, rfl, rfl, rfl⟩

/-- Settles O19: the model's laws of `readReg` and of `RegFile.set`, side by side. -/
theorem readingARegister : Obligations.ReadingARegister := by
  unfold Obligations.ReadingARegister
  exact ⟨fun _ _ _ => State.readReg_word, fun _ _ => State.readReg_draw, fun _ _ => State.readReg_fault,
    RegFile.get_set⟩

end Sys2Proof.EntryProofs

/-! The encoding tables row by row (30_encoding.md R70, R73, R75 to R78). -/

namespace Sys2Proof.TableProofs

open Sys2Proof.Machine Sys2Proof.EncodingProofs Sys2Proof.RoundTripProofs Sys2Proof.DecodeProofs

/-! ### A row of the encoder is a row of the table

Each lemma asks for the encoder's rows, which hold by unfolding `encodeParts`; the decoder's side is
`standsFor_encodeParts`. -/

theorem standsFor_of_row {f : Fields} {n : Option (BitVec 32)} {i : Instr} (wf : i.wellFormed = true)
    (enc : encodeParts i = (f, n)) : standsFor f n i := by
  have stands := standsFor_encodeParts i wf
  rwa [enc] at stands

section
variable {op : BitVec 8} {d r : Reg} {o : BitVec 16} {k : BitVec 32}

theorem standsFor_of_dstImmRow {mk : Reg → BitVec 32 → Instr} (row : DstImmRow op o mk) (hd : d ≠ .r10) :
    standsFor ⟨op, d.toBits, 0#4, o, k⟩ none (mk d k) :=
  standsFor_of_row ((row d k).1.trans (bne_iff_ne.mpr hd)) (row d k).2

theorem standsFor_of_dstSrcRow {mk : Reg → Reg → Instr} (row : DstSrcRow op o mk) (hd : d ≠ .r10) :
    standsFor ⟨op, d.toBits, r.toBits, o, 0#32⟩ none (mk d r) :=
  standsFor_of_row ((row d r).1.trans (bne_iff_ne.mpr hd)) (row d r).2

theorem standsFor_of_offsetImmRow {mk : Reg → BitVec 16 → BitVec 32 → Instr} (row : OffsetImmRow op mk) :
    standsFor ⟨op, d.toBits, 0#4, o, k⟩ none (mk d o k) :=
  standsFor_of_row (row d o k).1 (row d o k).2

theorem standsFor_of_offsetSrcRow {wf : Reg → Reg → Bool} {mk : Reg → Reg → BitVec 16 → Instr}
    (row : OffsetSrcRow op k wf mk) (h : wf d r = true) : standsFor ⟨op, d.toBits, r.toBits, o, k⟩ none (mk d r o) :=
  standsFor_of_row ((row d r o).1.trans h) (row d r o).2

end

theorem aluRow_of {code : BitVec 8} {o : BitVec 16} {k64 k32 : Reg → BitVec 32 → Instr} {x64 x32 : Reg → Reg → Instr}
    (hk64 : DstImmRow (code ||| 0x00#8 ||| 0x07#8) o k64 := by exact fun _ _ => ⟨rfl, rfl⟩)
    (hx64 : DstSrcRow (code ||| 0x08#8 ||| 0x07#8) o x64 := by exact fun _ _ => ⟨rfl, rfl⟩)
    (hk32 : DstImmRow (code ||| 0x00#8 ||| 0x04#8) o k32 := by exact fun _ _ => ⟨rfl, rfl⟩)
    (hx32 : DstSrcRow (code ||| 0x08#8 ||| 0x04#8) o x32 := by exact fun _ _ => ⟨rfl, rfl⟩) :
    aluRow code o k64 x64 k32 x32 :=
  ⟨fun _ _ hd => ⟨standsFor_of_dstImmRow hk64 hd, standsFor_of_dstImmRow hk32 hd⟩,
    fun _ _ hd => standsFor_of_dstSrcRow hx64 hd, fun _ _ hd => standsFor_of_dstSrcRow hx32 hd⟩

theorem aluX1_of {code cls : BitVec 8} {o : BitVec 16} {x : Reg → Reg → Instr}
    (hx : DstSrcRow (code ||| 0x08#8 ||| cls) o x := by exact fun _ _ => ⟨rfl, rfl⟩) : aluX1 code o cls x :=
  fun _ _ hd => standsFor_of_dstSrcRow hx hd

theorem unaryRow_of {op : BitVec 8} {k : BitVec 32} {mk : Reg → Instr}
    (row : DstRow op k mk := by exact fun _ => ⟨rfl, rfl⟩) : unaryRow op k mk :=
  fun d hd => standsFor_of_row ((row d).1.trans (bne_iff_ne.mpr hd)) (row d).2

theorem jumpRow_of {code : BitVec 8} {k64 k32 : Reg → BitVec 16 → BitVec 32 → Instr}
    {x64 x32 : Reg → Reg → BitVec 16 → Instr}
    (hk64 : OffsetImmRow (code ||| 0x00#8 ||| 0x05#8) k64 := by exact fun _ _ _ => ⟨rfl, rfl⟩)
    (hx64 : OffsetSrcRow (code ||| 0x08#8 ||| 0x05#8) 0#32 (fun _ _ => true) x64 := by exact fun _ _ _ => ⟨rfl, rfl⟩)
    (hk32 : OffsetImmRow (code ||| 0x00#8 ||| 0x06#8) k32 := by exact fun _ _ _ => ⟨rfl, rfl⟩)
    (hx32 : OffsetSrcRow (code ||| 0x08#8 ||| 0x06#8) 0#32 (fun _ _ => true) x32 := by exact fun _ _ _ => ⟨rfl, rfl⟩) :
    jumpRow code k64 x64 k32 x32 :=
  fun _ _ _ _ => ⟨standsFor_of_offsetImmRow hk64, standsFor_of_offsetSrcRow hx64 rfl, standsFor_of_offsetImmRow hk32,
    standsFor_of_offsetSrcRow hx32 rfl⟩

theorem loadRow_of {mode size : BitVec 8} {mk : Reg → Reg → BitVec 16 → Instr}
    (row : OffsetSrcRow (mode ||| size ||| 0x01#8) 0#32 (fun d _ => d != .r10) mk := by exact fun _ _ _ => ⟨rfl, rfl⟩) :
    loadRow mode size mk :=
  fun _ _ _ hd => standsFor_of_offsetSrcRow row (bne_iff_ne.mpr hd)

theorem storeRow_of {size : BitVec 8} {st : Reg → BitVec 16 → BitVec 32 → Instr} {stx : Reg → Reg → BitVec 16 → Instr}
    (hst : OffsetImmRow (0x60#8 ||| size ||| 0x02#8) st := by exact fun _ _ _ => ⟨rfl, rfl⟩)
    (hstx : OffsetSrcRow (0x60#8 ||| size ||| 0x03#8) 0#32 (fun _ _ => true) stx := by
      exact fun _ _ _ => ⟨rfl, rfl⟩) : storeRow size st stx :=
  fun _ _ _ _ => ⟨standsFor_of_offsetImmRow hst, standsFor_of_offsetSrcRow hstx rfl⟩

theorem atomicRow_of {k : BitVec 32} {fetch : Bool} {a32 a64 : Reg → Reg → BitVec 16 → Instr}
    (h32 : OffsetSrcRow 0xc3#8 k (fun _ r => !fetch || r != .r10) a32 := by exact fun _ _ _ => ⟨rfl, rfl⟩)
    (h64 : OffsetSrcRow 0xdb#8 k (fun _ r => !fetch || r != .r10) a64 := by exact fun _ _ _ => ⟨rfl, rfl⟩) :
    atomicRow k fetch a32 a64 := by
  intro d r o h
  have wf : (!fetch || r != .r10) = true := by
    cases fetch with
    | false => rfl
    | true => exact bne_iff_ne.mpr (h rfl)
  exact ⟨standsFor_of_offsetSrcRow h32 wf, standsFor_of_offsetSrcRow h64 wf⟩

/-- A subtype that admits the values of `next_imm` its instruction is well formed with. -/
theorem wideRow_of {sub : BitVec 4} {admits : BitVec 32 → Prop} {mk : Reg → BitVec 32 → BitVec 32 → Instr}
    (wf : ∀ d k n, d ≠ .r10 → admits n → (mk d k n).wellFormed = true)
    (enc : ∀ d k n, encodeParts (mk d k n) = (⟨0x18#8, d.toBits, sub, 0#16, k⟩, some n) := by exact fun _ _ _ => rfl) :
    wideRow sub admits mk :=
  fun d k n hd hn => standsFor_of_row (wf d k n hd hn) (enc d k n)

theorem wideRowZero_of {sub : BitVec 4} {mk : Reg → BitVec 32 → Instr}
    (row : ∀ d k, (mk d k).wellFormed = (d != .r10) ∧
      encodeParts (mk d k) = (⟨0x18#8, d.toBits, sub, 0#16, k⟩, some 0#32) := by exact fun _ _ => ⟨rfl, rfl⟩) :
    wideRowZero sub mk :=
  fun d k hd => standsFor_of_row ((row d k).1.trans (bne_iff_ne.mpr hd)) (row d k).2

theorem legacyRow_of {op : BitVec 8} {mk : BitVec 4 → BitVec 4 → BitVec 16 → BitVec 32 → Instr}
    (row : ∀ d r o k, (mk d r o k).wellFormed = true ∧ encodeParts (mk d r o k) = (⟨op, d, r, o, k⟩, none) := by
      exact fun _ _ _ _ => ⟨rfl, rfl⟩) : legacyRow op mk :=
  fun d r o k => standsFor_of_row (row d r o k).1 (row d r o k).2

/-- Bit 31 of `next_imm` is clear exactly below 2^31 (R223). -/
theorem addend_wf {d : Reg} {n : BitVec 32} (hd : d ≠ .r10) (hn : n.toNat < 2 ^ 31) :
    (d != .r10 && !n.msb) = true := by
  simpa [BitVec.msb_eq_decide, hd] using hn

/-- Settles O7: the vectors' words by evaluation, then every row of the tables. -/
theorem wordsOfTheSpecDecode : Obligations.WordsOfTheSpecDecode := by
  unfold Obligations.WordsOfTheSpecDecode
  exact ⟨rfl, rfl, rfl, rfl, rfl, rfl, rfl, rfl, rfl, rfl, rfl, rfl, rfl, rfl,
    aluRow_of, aluRow_of, aluRow_of, aluRow_of, aluRow_of, aluRow_of, aluRow_of, aluRow_of, aluRow_of, aluRow_of,
    aluRow_of, aluRow_of, aluRow_of, aluRow_of, aluX1_of, aluX1_of, aluX1_of, aluX1_of, aluX1_of,
    unaryRow_of, unaryRow_of, unaryRow_of, unaryRow_of, unaryRow_of, unaryRow_of, unaryRow_of, unaryRow_of,
    unaryRow_of, unaryRow_of, unaryRow_of,
    fun _ => standsFor_of_row rfl rfl, fun _ => standsFor_of_row rfl rfl,
    jumpRow_of, jumpRow_of, jumpRow_of, jumpRow_of, jumpRow_of, jumpRow_of, jumpRow_of, jumpRow_of, jumpRow_of,
    jumpRow_of, jumpRow_of,
    fun _ => standsFor_of_row rfl rfl, fun _ => standsFor_of_row rfl rfl, fun _ => standsFor_of_row rfl rfl,
    standsFor_of_row rfl rfl,
    loadRow_of, loadRow_of, loadRow_of, loadRow_of, loadRow_of, loadRow_of, loadRow_of,
    storeRow_of, storeRow_of, storeRow_of, storeRow_of,
    atomicRow_of, atomicRow_of, atomicRow_of, atomicRow_of, atomicRow_of, atomicRow_of, atomicRow_of, atomicRow_of,
    atomicRow_of, atomicRow_of,
    wideRow_of fun _ _ _ hd _ => bne_iff_ne.mpr hd, wideRowZero_of, wideRow_of fun _ _ _ hd hn => addend_wf hd hn,
    wideRowZero_of, wideRowZero_of, wideRowZero_of, wideRow_of fun _ _ _ hd hn => addend_wf hd hn,
    legacyRow_of, legacyRow_of, legacyRow_of, legacyRow_of, legacyRow_of, legacyRow_of, legacyRow_of, legacyRow_of⟩

end Sys2Proof.TableProofs
